-- ==== Sys2Proof/Word.lean ====
section
/-! DEFINITION. The value types of the panel-bridge core: bytes, offsets and event words (R9, R50, R96), the
three wire states, two select-line states and two interrupt-line states (R13), and the 255-byte array shape that
the Register File and its two snapshots share (R20, R24, R25). -/

namespace Sys2Proof

/-- One Register File entry, snapshot entry or button-state entry: 8 bits (R9). -/
abbrev Byte := BitVec 8

/-- A register offset as the ports carry it: 8 bits, of which 0 to 254 address the Register File (R9, R50). -/
abbrev Offset := BitVec 8

/-- A host event word of format `HE`: kind, `a`, `b` (R96). -/
abbrev EventWord := BitVec 18

/-- The levels of the three sense lines; bit `j` is the level of line `j`, 1 = High (R12, R50). -/
abbrev SenseLevels := BitVec 3

/-- Which of the three switches of one bank are closed; bit `j` is the switch on sense line `j` (R104, R169). -/
abbrev Contacts := BitVec 3

/-- A lamp wire is in one of three states (R13). -/
inductive WireState where
  | driveLow
  | driveHigh
  | float
  deriving DecidableEq, Repr

/-- A select line is in one of two states (R13, R37). -/
inductive SelectState where
  | active
  | idle
  deriving DecidableEq, Repr

/-- The interrupt line is in one of two states: `asserted` is PendingRead, `deasserted` is Idle (R29, R175). -/
inductive IrqLine where
  | asserted
  | deasserted
  deriving DecidableEq, Repr

/-- The states of the five lamp wires, wire 0 first (R13). -/
abbrev WirePattern := Vector WireState 5

/-- The states of the five select lines, line 0 first (R37). -/
abbrev SelectLines := Vector SelectState 5

/-- The five bank bytes of one switch snapshot, bank 0 first (R26). -/
abbrev BankBytes := Vector Byte 5

/-- The shape of `RF`, `CUR` and `PREV`: `RF_SIZE` = 255 bytes, offsets 0 to 254 (R7, R20, R24, R25). -/
abbrev RegFile := Vector Byte 255

/-- A sequencer position: one of 71 values, 0 to 70 (R30, R101); 71 to 127 are not in the type, as R102 asks. -/
abbrev SeqPos := Fin 71

end Sys2Proof
end

