-- ==== Sys2Proof/Config.lean ====
section
/-! DEFINITION. The parameters of the block: the constants the source fixes (R7), the parameters it names without a
value (R8), each an uninterpreted constant, and the free values that a run draws (R70, R163). No definition here has
a value that the spec does not give, and nothing in Lean can evaluate an uninterpreted one. -/

namespace Sys2Proof.Config

/-- `RF_SIZE`: bytes in the Register File (R7). -/
abbrev rfSize : Nat := 255
/-- `N_LAMPS` (R7). -/
abbrev nLamps : Nat := 20
/-- `N_WIRES` (R7). -/
abbrev nWires : Nat := 5
/-- `N_BANKS` (R7). -/
abbrev nBanks : Nat := 5
/-- `N_SENSE` (R7). -/
abbrev nSense : Nat := 3
/-- `VER_BASE` (R7). -/
abbrev verBase : Nat := 0
/-- `RSV_BASE` (R7). -/
abbrev rsvBase : Nat := 2
/-- `LAMP_BASE` (R7). -/
abbrev lampBase : Nat := 4
/-- `BTN_BASE` (R7). -/
abbrev btnBase : Nat := 8

/-- `FW_VERSION`, 16 bits, a constant for the session whose value no source gives (R8). Log entry 1. -/
opaque fwVersion : BitVec 16

/-- The open part of the lamp table `LT` (R8, R141): in which order identities 3 to 20 take the eighteen ordered wire
pairs that the two entries of the source leave. By R142 and R143 a table is exactly such an order. Log entry 2. -/
opaque lampOrder : Equiv.Perm (Fin 18)

/-- `I2C_ADDR`: the 7-bit bus address of the engine; used by no rule (R8, R16). Log entry 3. -/
opaque i2cAddr : BitVec 7

/-- `LAMP_HOLD`: a named duration without semantics (R8, R151, R242). Log entry 3. -/
opaque lampHold : Nat

/-- `SCAN_SETTLE`: a named duration without semantics (R8, R161). Log entry 3. -/
opaque scanSettle : Nat

/-- FREE VALUE. The sense levels a `SAMP` step draws where the Panel agent has fixed nothing (R163, R169): the
argument is the running number of the sense draw. Log entry 5. -/
opaque senseDraw : Nat → SenseLevels

/-- FREE VALUE. The byte a host read outside the Register File returns (R70, R212): the argument is the running number
of the read draw. Log entry 6. -/
opaque outsideDraw : Nat → Byte

end Sys2Proof.Config
end

