-- ==== Sys2Proof/Syntax.lean ====
section
/-! DEFINITION. The operations of the block as syntax: one constructor per row of the operation table, 3 host events
(format `HE`, R96) and 71 sequencer micro-operations, one per sequencer position (format `SQ`, R100, R101). -/

namespace Sys2Proof

/-- The 74 operations (R100, R101). An indexed micro-operation of the spec, `LON(i)` say, is its 20 instances. -/
inductive Instr where
  /-- `HWB off, val`: one byte of a bus write lands (R210). -/
  | hwb (off : Offset) (val : Byte)
  /-- `HWC off, len`: a bus write has completed (R211). -/
  | hwc (off : Offset) (len : Byte)
  /-- `HRD off`: the host reads one register (R212); `unused` is the word's field `b`, ignored and written as 0 (R96). -/
  | hrd (off : Offset) (unused : Byte)
  /-- Position 0: refresh the Current Snapshot (R120). -/
  | rfsh
  /-- Position 1: clear the change flag (R121). -/
  | rfcl
  /-- Position 2: release the line if a bank register was read (R180). -/
  | ack
  /-- Position 3: clear the consumed flag (R181). -/
  | ackcl
  /-- Position 4: light lamp identity 1 if requested (R148). -/
  | lon0
  /-- Position 5: all lamps off after lamp identity 1 (R149). -/
  | loff0
  /-- Position 6: light lamp identity 2 if requested (R148). -/
  | lon1
  /-- Position 7: all lamps off after lamp identity 2 (R149). -/
  | loff1
  /-- Position 8: light lamp identity 3 if requested (R148). -/
  | lon2
  /-- Position 9: all lamps off after lamp identity 3 (R149). -/
  | loff2
  /-- Position 10: light lamp identity 4 if requested (R148). -/
  | lon3
  /-- Position 11: all lamps off after lamp identity 4 (R149). -/
  | loff3
  /-- Position 12: light lamp identity 5 if requested (R148). -/
  | lon4
  /-- Position 13: all lamps off after lamp identity 5 (R149). -/
  | loff4
  /-- Position 14: light lamp identity 6 if requested (R148). -/
  | lon5
  /-- Position 15: all lamps off after lamp identity 6 (R149). -/
  | loff5
  /-- Position 16: light lamp identity 7 if requested (R148). -/
  | lon6
  /-- Position 17: all lamps off after lamp identity 7 (R149). -/
  | loff6
  /-- Position 18: light lamp identity 8 if requested (R148). -/
  | lon7
  /-- Position 19: all lamps off after lamp identity 8 (R149). -/
  | loff7
  /-- Position 20: light lamp identity 9 if requested (R148). -/
  | lon8
  /-- Position 21: all lamps off after lamp identity 9 (R149). -/
  | loff8
  /-- Position 22: light lamp identity 10 if requested (R148). -/
  | lon9
  /-- Position 23: all lamps off after lamp identity 10 (R149). -/
  | loff9
  /-- Position 24: light lamp identity 11 if requested (R148). -/
  | lon10
  /-- Position 25: all lamps off after lamp identity 11 (R149). -/
  | loff10
  /-- Position 26: light lamp identity 12 if requested (R148). -/
  | lon11
  /-- Position 27: all lamps off after lamp identity 12 (R149). -/
  | loff11
  /-- Position 28: light lamp identity 13 if requested (R148). -/
  | lon12
  /-- Position 29: all lamps off after lamp identity 13 (R149). -/
  | loff12
  /-- Position 30: light lamp identity 14 if requested (R148). -/
  | lon13
  /-- Position 31: all lamps off after lamp identity 14 (R149). -/
  | loff13
  /-- Position 32: light lamp identity 15 if requested (R148). -/
  | lon14
  /-- Position 33: all lamps off after lamp identity 15 (R149). -/
  | loff14
  /-- Position 34: light lamp identity 16 if requested (R148). -/
  | lon15
  /-- Position 35: all lamps off after lamp identity 16 (R149). -/
  | loff15
  /-- Position 36: light lamp identity 17 if requested (R148). -/
  | lon16
  /-- Position 37: all lamps off after lamp identity 17 (R149). -/
  | loff16
  /-- Position 38: light lamp identity 18 if requested (R148). -/
  | lon17
  /-- Position 39: all lamps off after lamp identity 18 (R149). -/
  | loff17
  /-- Position 40: light lamp identity 19 if requested (R148). -/
  | lon18
  /-- Position 41: all lamps off after lamp identity 19 (R149). -/
  | loff18
  /-- Position 42: light lamp identity 20 if requested (R148). -/
  | lon19
  /-- Position 43: all lamps off after lamp identity 20 (R149). -/
  | loff19
  /-- Position 44: end of the lamp pass (R150). -/
  | lend
  /-- Position 45: write the low version byte (R122). -/
  | ver0
  /-- Position 46: write the high version byte (R123). -/
  | ver1
  /-- Position 47: select bank 0 (R161). -/
  | sela0
  /-- Position 48: sample bank 0 (R163). -/
  | samp0
  /-- Position 49: deselect bank 0 (R162). -/
  | seli0
  /-- Position 50: select bank 1 (R161). -/
  | sela1
  /-- Position 51: sample bank 1 (R163). -/
  | samp1
  /-- Position 52: deselect bank 1 (R162). -/
  | seli1
  /-- Position 53: select bank 2 (R161). -/
  | sela2
  /-- Position 54: sample bank 2 (R163). -/
  | samp2
  /-- Position 55: deselect bank 2 (R162). -/
  | seli2
  /-- Position 56: select bank 3 (R161). -/
  | sela3
  /-- Position 57: sample bank 3 (R163). -/
  | samp3
  /-- Position 58: deselect bank 3 (R162). -/
  | seli3
  /-- Position 59: select bank 4 (R161). -/
  | sela4
  /-- Position 60: sample bank 4 (R163). -/
  | samp4
  /-- Position 61: deselect bank 4 (R162). -/
  | seli4
  /-- Position 62: compare the new snapshot with the previous one (R176). -/
  | bcmp
  /-- Position 63: write bank 0 into the Register File (R177). -/
  | bwr0
  /-- Position 64: write bank 1 into the Register File (R177). -/
  | bwr1
  /-- Position 65: write bank 2 into the Register File (R177). -/
  | bwr2
  /-- Position 66: write bank 3 into the Register File (R177). -/
  | bwr3
  /-- Position 67: write bank 4 into the Register File (R177). -/
  | bwr4
  /-- Position 68: assert the interrupt line (R178). -/
  | irqa
  /-- Position 69: remember the snapshot (R179). -/
  | pbup
  /-- Position 70: shadow copy (R124). -/
  | shdw
  deriving DecidableEq, Repr

end Sys2Proof
end

