-- ==== Sys2Proof/WellFormed.lean ====
section
/-! DEFINITION. The checks the spec states on data that reaches the block from outside it: the ignored field of an
`HRD` word (R96), the kind of an event word (R96, R102) and a lamp pattern (R142). Every other operand of an
operation fills its field, so its type is its check. -/

namespace Sys2Proof

/-- A well-formed operation: the ignored field `b` of an `HRD` word is written as 0 (R96). -/
def Instr.wellFormed (i : Instr) : Bool :=
  match i with
  | .hwb _ _ | .hwc _ _ => true
  | .hrd _ unused => unused == 0
  | .rfsh | .rfcl | .ack | .ackcl | .lon0 | .loff0 | .lon1 | .loff1 | .lon2 | .loff2 | .lon3 | .loff3 | .lon4
  | .loff4 | .lon5 | .loff5 | .lon6 | .loff6 | .lon7 | .loff7 | .lon8 | .loff8 | .lon9 | .loff9 | .lon10
  | .loff10 | .lon11 | .loff11 | .lon12 | .loff12 | .lon13 | .loff13 | .lon14 | .loff14 | .lon15 | .loff15
  | .lon16 | .loff16 | .lon17 | .loff17 | .lon18 | .loff18 | .lon19 | .loff19 | .lend | .ver0 | .ver1 | .sela0
  | .samp0 | .seli0 | .sela1 | .samp1 | .seli1 | .sela2 | .samp2 | .seli2 | .sela3 | .samp3 | .seli3 | .sela4
  | .samp4 | .seli4 | .bcmp | .bwr0 | .bwr1 | .bwr2 | .bwr3 | .bwr4 | .irqa | .pbup | .shdw => true

/-- A host event word that the engine may deliver: kind `11` is not an event (R96, R102); such a word is never
delivered. -/
def EventWord.wellFormed (w : EventWord) : Bool :=
  w.extractLsb' 16 2 != 3

/-- How many of the five wires are in the state `x`. -/
def WirePattern.count (p : WirePattern) (x : WireState) : Nat :=
  p.toList.count x

/-- A legal lamp pattern: one wire `DriveLow`, one `DriveHigh`, three `Float` (R142, R95). -/
def WirePattern.isLampPattern (p : WirePattern) : Bool :=
  p.count .driveLow == 1 && p.count .driveHigh == 1 && p.count .float == 3

end Sys2Proof
end

