-- ==== Sys2Proof/Decode.lean ====
section
/-! DEFINITION. The formats: from bytes to an operation or a named rejection, total on any bytes (`HE` and `SQ`, R90,
R96, R101), and the encoder written from the same tables; the wire pattern word `WP` (R95) both ways; the six indexed
micro-operations as functions of their index (R100). A word of format `SQ` is one byte, a word of format `HE` is three
bytes, least significant byte first (log entry 11). -/

namespace Sys2Proof

/-- Why the decoder rejects some bytes. -/
inductive Reject where
  /-- Neither one byte (format `SQ`) nor three bytes (format `HE`): every word has one length (R103). Safe. -/
  | badLength
  /-- A position above 70: "none: never reached" (R101, R102). Safe. -/
  | reservedPosition
  /-- Bits above the 18 of an event word are set (R96). Safe. -/
  | excessBits
  /-- Kind `11`: not an event, never delivered (R96, R102). Safe. -/
  | notAnEvent
  deriving DecidableEq, Repr

/-- Phases 1 and 2: positions 0 to 3 (R101). -/
def phase1and2 : List Instr := [.rfsh, .rfcl, .ack, .ackcl]

/-- Positions 4 to 43: `LON(i)` at `4 + 2i` and `LOFF(i)` at `5 + 2i` (R101). -/
def lampPass : List Instr :=
  [.lon0, .loff0, .lon1, .loff1, .lon2, .loff2, .lon3, .loff3, .lon4, .loff4, .lon5, .loff5, .lon6, .loff6,
   .lon7, .loff7, .lon8, .loff8, .lon9, .loff9, .lon10, .loff10, .lon11, .loff11, .lon12, .loff12, .lon13,
   .loff13, .lon14, .loff14, .lon15, .loff15, .lon16, .loff16, .lon17, .loff17, .lon18, .loff18, .lon19,
   .loff19]

/-- Phase 3: positions 4 to 44 (R101). -/
def phase3 : List Instr := lampPass ++ [Instr.lend]

/-- Phase 4: positions 45 and 46 (R101). -/
def phase4 : List Instr := [.ver0, .ver1]

/-- Positions 47 to 61: `SELA(k)` at `47 + 3k`, `SAMP(k)` at `48 + 3k`, `SELI(k)` at `49 + 3k` (R101). -/
def scanPass : List Instr :=
  [.sela0, .samp0, .seli0, .sela1, .samp1, .seli1, .sela2, .samp2, .seli2, .sela3, .samp3, .seli3, .sela4,
   .samp4, .seli4]

/-- Positions 62 to 69: the comparison, the write-back, the assertion, the remembering (R101). -/
def detect : List Instr := [.bcmp, .bwr0, .bwr1, .bwr2, .bwr3, .bwr4, .irqa, .pbup]

/-- Phase 5: positions 47 to 69 (R101). -/
def phase5 : List Instr := scanPass ++ detect

/-- Phase 6: position 70 (R101). -/
def phase6 : List Instr := [.shdw]

/-- The table of R101: entry `n` is the micro-operation at position `n`. -/
def sequence : List Instr := phase1and2 ++ phase3 ++ phase4 ++ phase5 ++ phase6

/-- A word of format `SQ` (R101). -/
def decodePosition (p : Byte) : Except Reject Instr :=
  match sequence[p.toNat]? with
  | some i => .ok i
  | none => .error .reservedPosition

/-- A word of format `HE`: kind, then `a`, then `b` (R96). -/
def decodeEvent (w : EventWord) : Except Reject Instr :=
  let a := w.extractLsb' 8 8
  let b := w.extractLsb' 0 8
  if w.extractLsb' 16 2 = 0 then .ok (.hwb a b)
  else if w.extractLsb' 16 2 = 1 then .ok (.hwc a b)
  else if w.extractLsb' 16 2 = 2 then .ok (.hrd a b)
  else .error .notAnEvent

/-- The decoder, total on any bytes. -/
def decode (bytes : List Byte) : Except Reject Instr :=
  match bytes with
  | [p] => decodePosition p
  | [b, a, k] =>
    if k.extractLsb' 2 6 = 0 then decodeEvent (k.extractLsb' 0 2 ++ a ++ b)
    else .error .excessBits
  | _ => .error .badLength

/-- The three bytes of an event word, least significant byte first. -/
def eventBytes (w : EventWord) : List Byte :=
  [w.extractLsb' 0 8, w.extractLsb' 8 8, (w.extractLsb' 16 2).setWidth 8]

/-- The event word with these three fields (R96). -/
def eventWord (kind : BitVec 2) (a b : Byte) : EventWord := kind ++ a ++ b

/-- The encoder: the position of a micro-operation as R101 tables it, the fields of an event as R96 tables them. -/
def encode (i : Instr) : List Byte :=
  match i with
  | .hwb off val => eventBytes (eventWord 0 off val)
  | .hwc off len => eventBytes (eventWord 1 off len)
  | .hrd off unused => eventBytes (eventWord 2 off unused)
  | .rfsh => [0]
  | .rfcl => [1]
  | .ack => [2]
  | .ackcl => [3]
  | .lon0 => [4]
  | .loff0 => [5]
  | .lon1 => [6]
  | .loff1 => [7]
  | .lon2 => [8]
  | .loff2 => [9]
  | .lon3 => [10]
  | .loff3 => [11]
  | .lon4 => [12]
  | .loff4 => [13]
  | .lon5 => [14]
  | .loff5 => [15]
  | .lon6 => [16]
  | .loff6 => [17]
  | .lon7 => [18]
  | .loff7 => [19]
  | .lon8 => [20]
  | .loff8 => [21]
  | .lon9 => [22]
  | .loff9 => [23]
  | .lon10 => [24]
  | .loff10 => [25]
  | .lon11 => [26]
  | .loff11 => [27]
  | .lon12 => [28]
  | .loff12 => [29]
  | .lon13 => [30]
  | .loff13 => [31]
  | .lon14 => [32]
  | .loff14 => [33]
  | .lon15 => [34]
  | .loff15 => [35]
  | .lon16 => [36]
  | .loff16 => [37]
  | .lon17 => [38]
  | .loff17 => [39]
  | .lon18 => [40]
  | .loff18 => [41]
  | .lon19 => [42]
  | .loff19 => [43]
  | .lend => [44]
  | .ver0 => [45]
  | .ver1 => [46]
  | .sela0 => [47]
  | .samp0 => [48]
  | .seli0 => [49]
  | .sela1 => [50]
  | .samp1 => [51]
  | .seli1 => [52]
  | .sela2 => [53]
  | .samp2 => [54]
  | .seli2 => [55]
  | .sela3 => [56]
  | .samp3 => [57]
  | .seli3 => [58]
  | .sela4 => [59]
  | .samp4 => [60]
  | .seli4 => [61]
  | .bcmp => [62]
  | .bwr0 => [63]
  | .bwr1 => [64]
  | .bwr2 => [65]
  | .bwr3 => [66]
  | .bwr4 => [67]
  | .irqa => [68]
  | .pbup => [69]
  | .shdw => [70]

/-- `LON(i)` for `i` = 0 to 19 (R100, R148). -/
def lon (i : Fin 20) : Instr :=
  (#v[.lon0, .lon1, .lon2, .lon3, .lon4, .lon5, .lon6, .lon7, .lon8, .lon9, .lon10, .lon11, .lon12, .lon13,
      .lon14, .lon15, .lon16, .lon17, .lon18, .lon19] : Vector Instr 20)[i]

/-- `LOFF(i)` for `i` = 0 to 19 (R100, R149). -/
def loff (i : Fin 20) : Instr :=
  (#v[.loff0, .loff1, .loff2, .loff3, .loff4, .loff5, .loff6, .loff7, .loff8, .loff9, .loff10, .loff11,
      .loff12, .loff13, .loff14, .loff15, .loff16, .loff17, .loff18, .loff19] : Vector Instr 20)[i]

/-- `SELA(k)` for `k` = 0 to 4 (R100, R161). -/
def sela (k : Fin 5) : Instr :=
  (#v[.sela0, .sela1, .sela2, .sela3, .sela4] : Vector Instr 5)[k]

/-- `SAMP(k)` for `k` = 0 to 4 (R100, R163). -/
def samp (k : Fin 5) : Instr :=
  (#v[.samp0, .samp1, .samp2, .samp3, .samp4] : Vector Instr 5)[k]

/-- `SELI(k)` for `k` = 0 to 4 (R100, R162). -/
def seli (k : Fin 5) : Instr :=
  (#v[.seli0, .seli1, .seli2, .seli3, .seli4] : Vector Instr 5)[k]

/-- `BWR(k)` for `k` = 0 to 4 (R100, R177). -/
def bwr (k : Fin 5) : Instr :=
  (#v[.bwr0, .bwr1, .bwr2, .bwr3, .bwr4] : Vector Instr 5)[k]

/-- The output-enable bit of one wire in the word `WP` (R95). -/
def WireState.oe (x : WireState) : Bool :=
  match x with
  | .driveLow | .driveHigh => true
  | .float => false

/-- The level bit of one wire in the word `WP`: 1 when driven High, 0 when floating (R95). -/
def WireState.level (x : WireState) : Bool :=
  match x with
  | .driveHigh => true
  | .driveLow | .float => false

/-- Five bits, bit `p` from wire or line `p`. -/
def fiveBits (f : Fin 5 → Bool) : BitVec 5 :=
  BitVec.ofBool (f 4) ++ BitVec.ofBool (f 3) ++ BitVec.ofBool (f 2) ++ BitVec.ofBool (f 1) ++ BitVec.ofBool (f 0)

/-- `OE[4:0]` of a pattern: bit `p` is 1 when wire `p` is driven (R95). -/
def patternOE (w : WirePattern) : BitVec 5 := fiveBits fun p => w[p].oe

/-- `DO[4:0]` of a pattern: bit `p` is 1 when wire `p` is driven High (R95). -/
def patternDO (w : WirePattern) : BitVec 5 := fiveBits fun p => w[p].level

/-- The wire pattern word `WP`, `{OE[4:0], DO[4:0]}` (R95). -/
def encodePattern (w : WirePattern) : BitVec 10 := patternOE w ++ patternDO w

/-- One wire from its two bits; `OE` = 0 with `DO` = 1 is produced by no rule and read as `Float` (R95, R102). -/
def decodeWire (oe level : Bool) : WireState :=
  match oe, level with
  | false, _ => .float
  | true, false => .driveLow
  | true, true => .driveHigh

/-- The pattern a word `WP` stands for (R95). -/
def decodePattern (w : BitVec 10) : WirePattern :=
  Vector.ofFn fun p => decodeWire (w.getLsbD (5 + p.val)) (w.getLsbD p.val)

/-- The bytes of an opcode-table word of `nbits` bits: one byte for format `SQ`, three for format `HE` (log entry 11). -/
def tableBytes (nbits w : Nat) : List Byte :=
  if nbits ≤ 8 then [BitVec.ofNat 8 w]
  else [BitVec.ofNat 8 w, BitVec.ofNat 8 (w / 256), BitVec.ofNat 8 (w / 65536)]

/-- The operation the decoder reads from an opcode-table word. -/
def decodeTableWord (nbits w : Nat) : Option Instr :=
  match decode (tableBytes nbits w) with
  | .ok i => if w < 2 ^ (if nbits ≤ 8 then 8 else 24) then some i else none
  | .error _ => none

end Sys2Proof
end

