-- ==== Sys2Proof/Machine/State.lean ====
section
/-! DEFINITION. The state of the block: every element of R16 and R55, and beside it what stands for the agents
around the block (R14, R15): what happens before the Loop agent's next step, what the panel's contacts are known to
be, how many free values of each kind have been drawn, the last byte a host read returned. -/

namespace Sys2Proof.Machine

/-- One thing that may happen next: a step of one of the three agents (R14, R15) or the reset event (R260). -/
inductive Stimulus where
  /-- The Loop agent performs the micro-operation at `seq` (R15). -/
  | loop
  /-- The Host agent delivers one event, given by its `HE` word (R15, R96). -/
  | host (word : EventWord)
  /-- The Panel agent sets the contacts of bank `k`: `some c` is the line `SW k, c` of R104; `none` leaves them free,
  so that every later sample of the bank is a free draw (R169). -/
  | panel (k : Fin 5) (closed : Option Contacts)
  /-- The port `rst` (R50, R260). -/
  | rst
  deriving DecidableEq, Repr

/-- The whole machine. The first eleven fields are the block's state (R16); the last five stand for the agents around it. -/
structure State where
  /-- `RF`, the Register File (R20). -/
  rf : RegFile
  /-- `CUR`, the Current Snapshot (R24). -/
  cur : RegFile
  /-- `PREV`, the Previous Snapshot (R25). -/
  prev : RegFile
  /-- `BTN`, the Button State (R26). -/
  btn : BankBytes
  /-- `PBTN`, the Previous Button State (R26). -/
  pbtn : BankBytes
  /-- `RC`, `registersChanged` (R27). -/
  rc : Bool
  /-- `BC`, `buttonsConsumedByHost` (R28). -/
  bc : Bool
  /-- `IRQ`, the interrupt line (R29). -/
  irq : IrqLine
  /-- `W`, the five lamp wires (R36). -/
  w : WirePattern
  /-- `SEL`, the five select lines (R37). -/
  sel : SelectLines
  /-- `seq`, the sequencer position (R30). -/
  seq : SeqPos
  /-- The port `hrd_data` (R50): the byte the latest `HRD` returned. Log entry 8. -/
  hrdData : Byte
  /-- The panel: the contacts of each bank where the Panel agent has fixed them (R104, R169). Log entry 5. -/
  contacts : Vector (Option Contacts) 5
  /-- How many free sense levels have been drawn; only a sample counts here, so that no host event has a say in the
  levels of a later sample (R237). Log entry 5. -/
  senseDraws : Nat
  /-- How many free bytes host reads outside the Register File have drawn; only such a read counts here (R70, R237).
  Log entry 6. -/
  readDraws : Nat
  /-- What happens next, first first; when it is empty the Loop agent steps (R14, R15). Log entry 4. -/
  agenda : List Stimulus
  deriving DecidableEq, Repr

/-- The block raises no exception and has no fault of its own (R18, R230): no reason for a fault exists. -/
inductive Fault where
  deriving DecidableEq, Repr

/-- Why the machine answers that it has no meaning for what it was given. -/
inductive Refusal where
  /-- Raised by an arm of `exec` for an operation without a meaning; no arm of this model raises it. Safe. -/
  | notModelled (mnemonic : String)
  /-- Raised by `step` when the agenda holds an event word of kind `11`, which is not an event and is never delivered
  (R96, R102). Safe: the model stops where the spec has no behaviour. -/
  | undecodable (why : Reject)
  deriving DecidableEq, Repr

/-- The machine right after reset (R55, R21, R24 to R30, R36, R37; log entries 7 and 8). -/
def State.reset : State where
  rf := ((Vector.replicate 255 (0 : Byte)).set 0 (Config.fwVersion.extractLsb' 0 8)).set 1
    (Config.fwVersion.extractLsb' 8 8)
  cur := Vector.replicate 255 0
  prev := Vector.replicate 255 0
  btn := Vector.replicate 5 0
  pbtn := Vector.replicate 5 0
  rc := false
  bc := false
  irq := .deasserted
  w := Vector.replicate 5 .float
  sel := Vector.replicate 5 .idle
  seq := 0
  hrdData := 0
  contacts := Vector.replicate 5 none
  senseDraws := 0
  readDraws := 0
  agenda := []

end Sys2Proof.Machine
end

