-- ==== Sys2Proof/Machine/Ops.lean ====
section
/-! DEFINITION. The named operations over the register files and the state's fields. The block has no exception to
take and nothing to return from (R230, R238): a host event saves nothing, switches nothing and leaves `seq` as it is
(R236, R237), so what other hardware does on entry to a handler has no counterpart here. -/

namespace Sys2Proof

/-- The byte at an offset; none at 255, which is outside the file (R12, R60, R70). -/
def RegFile.read (m : RegFile) (off : Offset) : Option Byte := m[off.toNat]?

/-- The file with one byte stored; at offset 255 nothing changes (R12, R66, R70). -/
def RegFile.write (m : RegFile) (off : Offset) (v : Byte) : RegFile :=
  if h : off.toNat < 255 then m.set off.toNat v else m

/-- The file as a list of (offset, byte) pairs, offsets rising: what a test writes down (log entry 17). -/
def RegFile.cells (m : RegFile) : List Host.Cell :=
  (List.finRange 255).map fun a => (a.val, m[a])

namespace Machine

/-- Set `RF`. -/
def State.setRf (s : State) (v : RegFile) : State := { s with rf := v }
/-- Set `CUR`. -/
def State.setCur (s : State) (v : RegFile) : State := { s with cur := v }
/-- Set `PREV`. -/
def State.setPrev (s : State) (v : RegFile) : State := { s with prev := v }
/-- Set `BTN`. -/
def State.setBtn (s : State) (v : BankBytes) : State := { s with btn := v }
/-- Set `PBTN`. -/
def State.setPbtn (s : State) (v : BankBytes) : State := { s with pbtn := v }
/-- Set `RC`. -/
def State.setRc (s : State) (v : Bool) : State := { s with rc := v }
/-- Set `BC`. -/
def State.setBc (s : State) (v : Bool) : State := { s with bc := v }
/-- Set `IRQ`. -/
def State.setIrq (s : State) (v : IrqLine) : State := { s with irq := v }
/-- `W <- p`: all five lamp wires in one step (R12, R146). -/
def State.setW (s : State) (v : WirePattern) : State := { s with w := v }
/-- Set `SEL`. -/
def State.setSel (s : State) (v : SelectLines) : State := { s with sel := v }
/-- `seq <- p` (R12, R30). -/
def State.setSeq (s : State) (v : SeqPos) : State := { s with seq := v }
/-- Drive `hrd_data` (R50). -/
def State.setHrdData (s : State) (v : Byte) : State := { s with hrdData := v }
/-- Set the contacts of the panel. -/
def State.setContacts (s : State) (v : Vector (Option Contacts) 5) : State := { s with contacts := v }
/-- Set the number of free sense levels drawn. -/
def State.setSenseDraws (s : State) (v : Nat) : State := { s with senseDraws := v }
/-- Set the number of free read bytes drawn. -/
def State.setReadDraws (s : State) (v : Nat) : State := { s with readDraws := v }
/-- Set the agenda. -/
def State.setAgenda (s : State) (v : List Stimulus) : State := { s with agenda := v }

/-- `RF[off] <- v` (R12, R66). -/
def State.storeRf (s : State) (off : Offset) (v : Byte) : State := s.setRf (s.rf.write off v)

/-- `BTN[k] <- v` (R26). -/
def State.setBank (s : State) (k : Fin 5) (v : Byte) : State := s.setBtn (s.btn.set k v)

/-- `SEL[k] <- x` (R37). -/
def State.setLine (s : State) (k : Fin 5) (x : SelectState) : State := s.setSel (s.sel.set k x)

/-- Free sense levels have been drawn once more (R163). -/
def State.senseDrawn (s : State) : State := s.setSenseDraws (s.senseDraws + 1)

/-- A free read byte has been drawn once more (R70). -/
def State.readDrawn (s : State) : State := s.setReadDraws (s.readDraws + 1)

end Machine

end Sys2Proof
end

