-- ==== Sys2Proof/Machine/Operands.lean ====
section
/-! DEFINITION. The operands: the lamp mask (R97), the lamp table and the total map from identity to pattern (R141 to
R144), the encoder (R154), the version bytes (R106), the sense levels and the bank byte made of them (R99, R163, R169),
the bank registers' offsets (R34). -/

namespace Sys2Proof

/-- `AllFloat` (R13). -/
def allFloat : WirePattern := Vector.replicate 5 .float

/-- The pattern with one wire driven Low, one driven High and the others floated (R141). -/
def pairPattern (low high : Fin 5) : WirePattern :=
  Vector.ofFn fun p => if p = low then .driveLow else if p = high then .driveHigh else .float

/-- The eighteen ordered (low wire, high wire) pairs that identities 1 and 2 leave (R143). The order they are written in
means nothing: `Config.lampOrder` is open. -/
def openPairs : Vector (Fin 5 × Fin 5) 18 :=
  #v[(0, 1), (0, 3), (0, 4), (1, 0), (1, 2), (1, 3), (1, 4), (2, 0), (2, 1),
     (2, 3), (3, 0), (3, 1), (3, 2), (3, 4), (4, 0), (4, 1), (4, 2), (4, 3)]

/-- The (low wire, high wire) pair of mask bit `i`: bits 0 and 1 as the source gives them, the others in the order
`order` (R141, R143). -/
def lampPair (order : Equiv.Perm (Fin 18)) (i : Fin 20) : Fin 5 × Fin 5 :=
  if i.val = 0 then (2, 4)
  else if i.val = 1 then (0, 2)
  else openPairs[order ⟨i.val - 2, by omega⟩]

/-- A lamp table: the pattern of mask bit `i` (identity `i + 1`) when the open entries stand in the order `order`
(R141). -/
def lampTable (order : Equiv.Perm (Fin 18)) (i : Fin 20) : WirePattern :=
  pairPattern (lampPair order i).1 (lampPair order i).2

/-- `LT(i + 1)` of this block (R8, R141). -/
def lampPattern (i : Fin 20) : WirePattern := lampTable Config.lampOrder i

/-- `Pattern(id)`, total on all integers: `AllFloat` outside 1 to 20 (R144). -/
def pattern (id : Int) : WirePattern :=
  if h : 1 ≤ id ∧ id ≤ 20 then lampPattern ⟨(id - 1).toNat, by omega⟩ else allFloat

/-- `Enc(id) = (OE, DO)` (R154). -/
def enc (id : Int) : BitVec 5 × BitVec 5 := (patternOE (pattern id), patternDO (pattern id))

/-- `LE32(A, 4)`, the lamp mask (R11, R97). -/
def lampMask (m : RegFile) : BitVec 32 := m[7] ++ m[6] ++ m[5] ++ m[4]

/-- `LE16(A, 0)`, the version field (R11, R31). -/
def versionField (m : RegFile) : BitVec 16 := m[1] ++ m[0]

/-- The byte `VER0` writes (R106). -/
def versionLow : Byte := Config.fwVersion.extractLsb' 0 8

/-- The byte `VER1` writes (R106). -/
def versionHigh : Byte := Config.fwVersion.extractLsb' 8 8

/-- `zext_8(~s & 0b111)` (R99, R163). -/
def bankByte (levels : SenseLevels) : Byte := (~~~ levels &&& 0b111#3).setWidth 8

/-- The offset of button bank `k` (R34). -/
def bankOffset (k : Fin 5) : Offset := BitVec.ofNat 8 (8 + k.val)

/-- An offset of the button-bank field, 8 to 12 (R34, R212). -/
def isBankOffset (off : Offset) : Bool := 8 ≤ off.toNat && off.toNat ≤ 12

namespace Machine

/-- The bank whose select line is the only `Active` one, if there is exactly one (R169). -/
def selectedBank (sel : SelectLines) : Option (Fin 5) :=
  match (List.finRange 5).filter (fun k => sel[k] == .active) with
  | [k] => some k
  | _ => none

/-- The levels of the sense lines where the Panel agent has fixed them: line `j` is Low exactly when the switch on it
is closed (R104, R169). None when the contacts are free or when not exactly one line is selected (R169 gives the lines
no meaning then): the sample is a free draw. -/
def State.fixedLevels (s : State) : Option SenseLevels :=
  match selectedBank s.sel with
  | some k => s.contacts[k].map fun closed => ~~~ closed
  | none => none

/-- `Sense()` (R12, R163): the fixed levels, or the next free draw. -/
def State.senseLevels (s : State) : SenseLevels :=
  match s.fixedLevels with
  | some levels => levels
  | none => Config.senseDraw s.senseDraws

/-- The state after `Sense()` was read: a free draw is used once. -/
def State.afterSense (s : State) : State :=
  match s.fixedLevels with
  | some _ => s
  | none => s.senseDrawn

end Machine

end Sys2Proof
end

