-- ==== Sys2Proof/Machine/Flags.lean ====
section
/-! DEFINITION. The flags and the interrupt line: who sets and who clears each (R27, R28, R29, R77), and the comparison
the edge detector branches on (R176). -/

namespace Sys2Proof.Machine

/-- `RC <- 1`, the notification that a bus write has completed (R27, R211). -/
def State.noteWriteCompleted (s : State) : State := s.setRc true

/-- `RC <- 0` (R121). -/
def State.clearChanged (s : State) : State := s.setRc false

/-- `BC <- 1` when the offset read is one of 8 to 12; else `BC` stays (R28, R212). -/
def State.noteRegisterRead (s : State) (off : Offset) : State := s.setBc (s.bc || isBankOffset off)

/-- `BC <- 0` (R181). -/
def State.clearConsumed (s : State) : State := s.setBc false

/-- `IRQ <- Asserted` (R178). -/
def State.assertIrq (s : State) : State := s.setIrq .asserted

/-- `IRQ <- Deasserted` (R180). -/
def State.releaseIrq (s : State) : State := s.setIrq .deasserted

/-- "exists k in 0..4 with BTN[k] != PBTN[k]", on all 8 bits (R176). -/
def State.snapshotChanged (s : State) : Bool := decide (∃ k : Fin 5, s.btn[k] ≠ s.pbtn[k])

end Sys2Proof.Machine
end

