-- ==== Sys2Proof/Machine/HostInterface.lean ====
section
/-! DEFINITION. The host-side events `HWB`, `HWC`, `HRD` (R210 to R212), and the event words of whole bus transactions
(R105, R213). None of the three moves `seq` (R237). -/

namespace Sys2Proof.Machine

/-- `HWB off, val`: the byte lands at offsets 0 to 254, whoever owns them (R39, R210); outside them nothing changes
(R70). -/
def execHwb (off : Offset) (val : Byte) (s : State) : Host.Outcome State Fault Refusal := .next (s.storeRf off val)

/-- `HWC off, len`: `RC <- 1`, whatever the operands are (R211). -/
def execHwc (_off : Offset) (_len : Byte) (s : State) : Host.Outcome State Fault Refusal := .next s.noteWriteCompleted

/-- `HRD off`: the byte goes to `hrd_data`, and `BC <- 1` when the offset is 8 to 12, in one step (R212). At offset 255
the byte is a free draw and no flag is set (R70). -/
def execHrd (off : Offset) (_unused : Byte) (s : State) : Host.Outcome State Fault Refusal :=
  match s.rf.read off with
  | some v => .next ((s.setHrdData v).noteRegisterRead off)
  | none => .next ((s.setHrdData (Config.outsideDraw s.readDraws)).readDrawn.noteRegisterRead off)

/-- The `HWB` words of a bus write that puts `bytes` at ascending offsets from `off` on; bytes that would fall at offset
255 or above are dropped (R213, R70). -/
def landingWords (off : Nat) (bytes : List Byte) : List EventWord :=
  match bytes with
  | [] => []
  | b :: rest =>
    if off < 255 then eventWord 0 (BitVec.ofNat 8 off) b :: landingWords (off + 1) rest else []

/-- `HWRITE off, b0 b1 ...`: one completed bus write (R105, R213). -/
def writeTransaction (off : Nat) (bytes : List Byte) : List EventWord :=
  landingWords off bytes ++ [eventWord 1 (BitVec.ofNat 8 off) (BitVec.ofNat 8 bytes.length)]

/-- `SETLAMPS m` (R105). -/
def setLampsTransaction (m : BitVec 32) : List EventWord :=
  writeTransaction 4 [m.extractLsb' 0 8, m.extractLsb' 8 8, m.extractLsb' 16 8, m.extractLsb' 24 8]

/-- `HREAD off, n`: `n` single-byte reads at ascending offsets (R105); an offset above 255 is outside the file as 255 is
(R70) and is read as 255. -/
def readWords (off : Nat) (n : Nat) : List EventWord :=
  (List.range n).map fun j => eventWord 2 (BitVec.ofNat 8 (min (off + j) 255)) 0

/-- `GETBTNS` (R105). -/
def getButtonsWords : List EventWord := readWords 8 5

/-- `GETVER` (R105). -/
def getVersionWords : List EventWord := readWords 0 2

end Sys2Proof.Machine
end

