-- ==== Sys2Proof/Machine/IrqHandshake.lean ====
section
/-! DEFINITION. The IRQ Handshake: `ACK`, `ACKCL` (phase 2), `BCMP`, `BWR(k)` for `k` = 0 to 4, `IRQA`, `PBUP` (second
part of phase 5). -/

namespace Sys2Proof.Machine

/-- `ACK`: when `BC` = 1 the line is released (R180). -/
def execAck (s : State) : Host.Outcome State Fault Refusal :=
  if s.bc then .next (s.releaseIrq.setSeq 3) else .next (s.setSeq 4)

/-- `ACKCL`: `BC <- 0` (R181). -/
def execAckcl (s : State) : Host.Outcome State Fault Refusal := .next (s.clearConsumed.setSeq 4)

/-- `BCMP`: branch on whether the new snapshot differs from the previous one (R176). -/
def execBcmp (s : State) : Host.Outcome State Fault Refusal :=
  if s.snapshotChanged then .next (s.setSeq 63) else .next (s.setSeq 69)

/-- `RF[8 + k] <- BTN[k]` (R177). -/
def writeBank (k : Fin 5) (s : State) : Host.Outcome State Fault Refusal :=
  .next ((s.storeRf (bankOffset k) s.btn[k]).setSeq ⟨64 + k.val, by omega⟩)

/-- `BWR(0)` (R177). -/
def execBwr0 (s : State) : Host.Outcome State Fault Refusal := writeBank 0 s
/-- `BWR(1)` (R177). -/
def execBwr1 (s : State) : Host.Outcome State Fault Refusal := writeBank 1 s
/-- `BWR(2)` (R177). -/
def execBwr2 (s : State) : Host.Outcome State Fault Refusal := writeBank 2 s
/-- `BWR(3)` (R177). -/
def execBwr3 (s : State) : Host.Outcome State Fault Refusal := writeBank 3 s
/-- `BWR(4)` (R177). -/
def execBwr4 (s : State) : Host.Outcome State Fault Refusal := writeBank 4 s

/-- `IRQA`: `IRQ <- Asserted` (R178). -/
def execIrqa (s : State) : Host.Outcome State Fault Refusal := .next (s.assertIrq.setSeq 69)

/-- `PBUP`: `PBTN <- BTN`, all five bytes (R179). -/
def execPbup (s : State) : Host.Outcome State Fault Refusal := .next ((s.setPbtn s.btn).setSeq 70)

end Sys2Proof.Machine
end

