-- ==== Sys2Proof/Machine/LampMultiplexer.lean ====
section
/-! DEFINITION. The Lamp Multiplexer: `LON(i)`, `LOFF(i)` for `i` = 0 to 19, and `LEND` (phase 3). -/

namespace Sys2Proof.Machine

/-- Light lamp `i + 1` if mask bit `i` of the Current Snapshot requests it; else only the position moves (R148). -/
def lampOn (i : Fin 20) (s : State) : Host.Outcome State Fault Refusal :=
  if (lampMask s.cur).getLsbD i.val then .next ((s.setW (pattern (i.val + 1))).setSeq ⟨5 + 2 * i.val, by omega⟩)
  else .next (s.setSeq ⟨6 + 2 * i.val, by omega⟩)

/-- All lamps off after lamp `i + 1` (R149). -/
def lampOff (i : Fin 20) (s : State) : Host.Outcome State Fault Refusal :=
  .next ((s.setW allFloat).setSeq ⟨6 + 2 * i.val, by omega⟩)

/-- `LON(0)` (R148). -/
def execLon0 (s : State) : Host.Outcome State Fault Refusal := lampOn 0 s
/-- `LON(1)` (R148). -/
def execLon1 (s : State) : Host.Outcome State Fault Refusal := lampOn 1 s
/-- `LON(2)` (R148). -/
def execLon2 (s : State) : Host.Outcome State Fault Refusal := lampOn 2 s
/-- `LON(3)` (R148). -/
def execLon3 (s : State) : Host.Outcome State Fault Refusal := lampOn 3 s
/-- `LON(4)` (R148). -/
def execLon4 (s : State) : Host.Outcome State Fault Refusal := lampOn 4 s
/-- `LON(5)` (R148). -/
def execLon5 (s : State) : Host.Outcome State Fault Refusal := lampOn 5 s
/-- `LON(6)` (R148). -/
def execLon6 (s : State) : Host.Outcome State Fault Refusal := lampOn 6 s
/-- `LON(7)` (R148). -/
def execLon7 (s : State) : Host.Outcome State Fault Refusal := lampOn 7 s
/-- `LON(8)` (R148). -/
def execLon8 (s : State) : Host.Outcome State Fault Refusal := lampOn 8 s
/-- `LON(9)` (R148). -/
def execLon9 (s : State) : Host.Outcome State Fault Refusal := lampOn 9 s
/-- `LON(10)` (R148). -/
def execLon10 (s : State) : Host.Outcome State Fault Refusal := lampOn 10 s
/-- `LON(11)` (R148). -/
def execLon11 (s : State) : Host.Outcome State Fault Refusal := lampOn 11 s
/-- `LON(12)` (R148). -/
def execLon12 (s : State) : Host.Outcome State Fault Refusal := lampOn 12 s
/-- `LON(13)` (R148). -/
def execLon13 (s : State) : Host.Outcome State Fault Refusal := lampOn 13 s
/-- `LON(14)` (R148). -/
def execLon14 (s : State) : Host.Outcome State Fault Refusal := lampOn 14 s
/-- `LON(15)` (R148). -/
def execLon15 (s : State) : Host.Outcome State Fault Refusal := lampOn 15 s
/-- `LON(16)` (R148). -/
def execLon16 (s : State) : Host.Outcome State Fault Refusal := lampOn 16 s
/-- `LON(17)` (R148). -/
def execLon17 (s : State) : Host.Outcome State Fault Refusal := lampOn 17 s
/-- `LON(18)` (R148). -/
def execLon18 (s : State) : Host.Outcome State Fault Refusal := lampOn 18 s
/-- `LON(19)` (R148). -/
def execLon19 (s : State) : Host.Outcome State Fault Refusal := lampOn 19 s

/-- `LOFF(0)` (R149). -/
def execLoff0 (s : State) : Host.Outcome State Fault Refusal := lampOff 0 s
/-- `LOFF(1)` (R149). -/
def execLoff1 (s : State) : Host.Outcome State Fault Refusal := lampOff 1 s
/-- `LOFF(2)` (R149). -/
def execLoff2 (s : State) : Host.Outcome State Fault Refusal := lampOff 2 s
/-- `LOFF(3)` (R149). -/
def execLoff3 (s : State) : Host.Outcome State Fault Refusal := lampOff 3 s
/-- `LOFF(4)` (R149). -/
def execLoff4 (s : State) : Host.Outcome State Fault Refusal := lampOff 4 s
/-- `LOFF(5)` (R149). -/
def execLoff5 (s : State) : Host.Outcome State Fault Refusal := lampOff 5 s
/-- `LOFF(6)` (R149). -/
def execLoff6 (s : State) : Host.Outcome State Fault Refusal := lampOff 6 s
/-- `LOFF(7)` (R149). -/
def execLoff7 (s : State) : Host.Outcome State Fault Refusal := lampOff 7 s
/-- `LOFF(8)` (R149). -/
def execLoff8 (s : State) : Host.Outcome State Fault Refusal := lampOff 8 s
/-- `LOFF(9)` (R149). -/
def execLoff9 (s : State) : Host.Outcome State Fault Refusal := lampOff 9 s
/-- `LOFF(10)` (R149). -/
def execLoff10 (s : State) : Host.Outcome State Fault Refusal := lampOff 10 s
/-- `LOFF(11)` (R149). -/
def execLoff11 (s : State) : Host.Outcome State Fault Refusal := lampOff 11 s
/-- `LOFF(12)` (R149). -/
def execLoff12 (s : State) : Host.Outcome State Fault Refusal := lampOff 12 s
/-- `LOFF(13)` (R149). -/
def execLoff13 (s : State) : Host.Outcome State Fault Refusal := lampOff 13 s
/-- `LOFF(14)` (R149). -/
def execLoff14 (s : State) : Host.Outcome State Fault Refusal := lampOff 14 s
/-- `LOFF(15)` (R149). -/
def execLoff15 (s : State) : Host.Outcome State Fault Refusal := lampOff 15 s
/-- `LOFF(16)` (R149). -/
def execLoff16 (s : State) : Host.Outcome State Fault Refusal := lampOff 16 s
/-- `LOFF(17)` (R149). -/
def execLoff17 (s : State) : Host.Outcome State Fault Refusal := lampOff 17 s
/-- `LOFF(18)` (R149). -/
def execLoff18 (s : State) : Host.Outcome State Fault Refusal := lampOff 18 s
/-- `LOFF(19)` (R149). -/
def execLoff19 (s : State) : Host.Outcome State Fault Refusal := lampOff 19 s

/-- `LEND`: the pass always ends with all wires floated (R150). -/
def execLend (s : State) : Host.Outcome State Fault Refusal := .next ((s.setW allFloat).setSeq 45)

end Sys2Proof.Machine
end

