-- ==== Sys2Proof/Machine/RegisterSnapshot.lean ====
section
/-! DEFINITION. The Register File and Snapshot/Change Detector: `RFSH`, `RFCL` (phase 1), `VER0`, `VER1` (phase 4),
`SHDW` (phase 6). -/

namespace Sys2Proof.Machine

/-- `RFSH`: when `RC` = 1, `CUR <- RF`, all 255 bytes in one atomic step (R120, R67). -/
def execRfsh (s : State) : Host.Outcome State Fault Refusal :=
  if s.rc then .next ((s.setCur s.rf).setSeq 1) else .next (s.setSeq 2)

/-- `RFCL`: `RC <- 0` (R121). -/
def execRfcl (s : State) : Host.Outcome State Fault Refusal := .next (s.clearChanged.setSeq 2)

/-- `VER0`: `RF[0] <- FW_VERSION[7:0]` (R122). -/
def execVer0 (s : State) : Host.Outcome State Fault Refusal := .next ((s.storeRf 0 versionLow).setSeq 46)

/-- `VER1`: `RF[1] <- FW_VERSION[15:8]` (R123). -/
def execVer1 (s : State) : Host.Outcome State Fault Refusal := .next ((s.storeRf 1 versionHigh).setSeq 47)

/-- `SHDW`: `PREV <- CUR` (R124). -/
def execShdw (s : State) : Host.Outcome State Fault Refusal := .next ((s.setPrev s.cur).setSeq 0)

end Sys2Proof.Machine
end

