-- ==== Sys2Proof/Machine/SwitchScanner.lean ====
section
/-! DEFINITION. The Switch Scanner: `SELA(k)`, `SAMP(k)`, `SELI(k)` for `k` = 0 to 4 (first part of phase 5). -/

namespace Sys2Proof.Machine

/-- `SEL[k] <- Active`; the other four lines stay (R161). -/
def selectBank (k : Fin 5) (s : State) : Host.Outcome State Fault Refusal :=
  .next ((s.setLine k .active).setSeq ⟨48 + 3 * k.val, by omega⟩)

/-- `BTN[k] <- zext_8(~Sense() & 0b111)` (R163). -/
def sampleBank (k : Fin 5) (s : State) : Host.Outcome State Fault Refusal :=
  .next ((s.afterSense.setBank k (bankByte s.senseLevels)).setSeq ⟨49 + 3 * k.val, by omega⟩)

/-- `SEL[k] <- Idle` (R162). -/
def deselectBank (k : Fin 5) (s : State) : Host.Outcome State Fault Refusal :=
  .next ((s.setLine k .idle).setSeq ⟨50 + 3 * k.val, by omega⟩)

/-- `SELA(0)` (R161). -/
def execSela0 (s : State) : Host.Outcome State Fault Refusal := selectBank 0 s
/-- `SELA(1)` (R161). -/
def execSela1 (s : State) : Host.Outcome State Fault Refusal := selectBank 1 s
/-- `SELA(2)` (R161). -/
def execSela2 (s : State) : Host.Outcome State Fault Refusal := selectBank 2 s
/-- `SELA(3)` (R161). -/
def execSela3 (s : State) : Host.Outcome State Fault Refusal := selectBank 3 s
/-- `SELA(4)` (R161). -/
def execSela4 (s : State) : Host.Outcome State Fault Refusal := selectBank 4 s

/-- `SAMP(0)` (R163). -/
def execSamp0 (s : State) : Host.Outcome State Fault Refusal := sampleBank 0 s
/-- `SAMP(1)` (R163). -/
def execSamp1 (s : State) : Host.Outcome State Fault Refusal := sampleBank 1 s
/-- `SAMP(2)` (R163). -/
def execSamp2 (s : State) : Host.Outcome State Fault Refusal := sampleBank 2 s
/-- `SAMP(3)` (R163). -/
def execSamp3 (s : State) : Host.Outcome State Fault Refusal := sampleBank 3 s
/-- `SAMP(4)` (R163). -/
def execSamp4 (s : State) : Host.Outcome State Fault Refusal := sampleBank 4 s

/-- `SELI(0)` (R162). -/
def execSeli0 (s : State) : Host.Outcome State Fault Refusal := deselectBank 0 s
/-- `SELI(1)` (R162). -/
def execSeli1 (s : State) : Host.Outcome State Fault Refusal := deselectBank 1 s
/-- `SELI(2)` (R162). -/
def execSeli2 (s : State) : Host.Outcome State Fault Refusal := deselectBank 2 s
/-- `SELI(3)` (R162). -/
def execSeli3 (s : State) : Host.Outcome State Fault Refusal := deselectBank 3 s
/-- `SELI(4)` (R162). -/
def execSeli4 (s : State) : Host.Outcome State Fault Refusal := deselectBank 4 s

end Sys2Proof.Machine
end

