-- ==== Sys2Proof/Machine/Dispatch.lean ====
section
/-! DEFINITION. `exec`: one arm per operation, each one direct call of that operation's meaning (R100). -/

namespace Sys2Proof.Machine

def exec (i : Instr) (s : State) : Host.Outcome State Fault Refusal :=
  match i with
  | .hwb off val => Sys2Proof.Machine.execHwb off val s
  | .hwc off len => Sys2Proof.Machine.execHwc off len s
  | .hrd off unused => Sys2Proof.Machine.execHrd off unused s
  | .rfsh => Sys2Proof.Machine.execRfsh s
  | .rfcl => Sys2Proof.Machine.execRfcl s
  | .ack => Sys2Proof.Machine.execAck s
  | .ackcl => Sys2Proof.Machine.execAckcl s
  | .lon0 => Sys2Proof.Machine.execLon0 s
  | .loff0 => Sys2Proof.Machine.execLoff0 s
  | .lon1 => Sys2Proof.Machine.execLon1 s
  | .loff1 => Sys2Proof.Machine.execLoff1 s
  | .lon2 => Sys2Proof.Machine.execLon2 s
  | .loff2 => Sys2Proof.Machine.execLoff2 s
  | .lon3 => Sys2Proof.Machine.execLon3 s
  | .loff3 => Sys2Proof.Machine.execLoff3 s
  | .lon4 => Sys2Proof.Machine.execLon4 s
  | .loff4 => Sys2Proof.Machine.execLoff4 s
  | .lon5 => Sys2Proof.Machine.execLon5 s
  | .loff5 => Sys2Proof.Machine.execLoff5 s
  | .lon6 => Sys2Proof.Machine.execLon6 s
  | .loff6 => Sys2Proof.Machine.execLoff6 s
  | .lon7 => Sys2Proof.Machine.execLon7 s
  | .loff7 => Sys2Proof.Machine.execLoff7 s
  | .lon8 => Sys2Proof.Machine.execLon8 s
  | .loff8 => Sys2Proof.Machine.execLoff8 s
  | .lon9 => Sys2Proof.Machine.execLon9 s
  | .loff9 => Sys2Proof.Machine.execLoff9 s
  | .lon10 => Sys2Proof.Machine.execLon10 s
  | .loff10 => Sys2Proof.Machine.execLoff10 s
  | .lon11 => Sys2Proof.Machine.execLon11 s
  | .loff11 => Sys2Proof.Machine.execLoff11 s
  | .lon12 => Sys2Proof.Machine.execLon12 s
  | .loff12 => Sys2Proof.Machine.execLoff12 s
  | .lon13 => Sys2Proof.Machine.execLon13 s
  | .loff13 => Sys2Proof.Machine.execLoff13 s
  | .lon14 => Sys2Proof.Machine.execLon14 s
  | .loff14 => Sys2Proof.Machine.execLoff14 s
  | .lon15 => Sys2Proof.Machine.execLon15 s
  | .loff15 => Sys2Proof.Machine.execLoff15 s
  | .lon16 => Sys2Proof.Machine.execLon16 s
  | .loff16 => Sys2Proof.Machine.execLoff16 s
  | .lon17 => Sys2Proof.Machine.execLon17 s
  | .loff17 => Sys2Proof.Machine.execLoff17 s
  | .lon18 => Sys2Proof.Machine.execLon18 s
  | .loff18 => Sys2Proof.Machine.execLoff18 s
  | .lon19 => Sys2Proof.Machine.execLon19 s
  | .loff19 => Sys2Proof.Machine.execLoff19 s
  | .lend => Sys2Proof.Machine.execLend s
  | .ver0 => Sys2Proof.Machine.execVer0 s
  | .ver1 => Sys2Proof.Machine.execVer1 s
  | .sela0 => Sys2Proof.Machine.execSela0 s
  | .samp0 => Sys2Proof.Machine.execSamp0 s
  | .seli0 => Sys2Proof.Machine.execSeli0 s
  | .sela1 => Sys2Proof.Machine.execSela1 s
  | .samp1 => Sys2Proof.Machine.execSamp1 s
  | .seli1 => Sys2Proof.Machine.execSeli1 s
  | .sela2 => Sys2Proof.Machine.execSela2 s
  | .samp2 => Sys2Proof.Machine.execSamp2 s
  | .seli2 => Sys2Proof.Machine.execSeli2 s
  | .sela3 => Sys2Proof.Machine.execSela3 s
  | .samp3 => Sys2Proof.Machine.execSamp3 s
  | .seli3 => Sys2Proof.Machine.execSeli3 s
  | .sela4 => Sys2Proof.Machine.execSela4 s
  | .samp4 => Sys2Proof.Machine.execSamp4 s
  | .seli4 => Sys2Proof.Machine.execSeli4 s
  | .bcmp => Sys2Proof.Machine.execBcmp s
  | .bwr0 => Sys2Proof.Machine.execBwr0 s
  | .bwr1 => Sys2Proof.Machine.execBwr1 s
  | .bwr2 => Sys2Proof.Machine.execBwr2 s
  | .bwr3 => Sys2Proof.Machine.execBwr3 s
  | .bwr4 => Sys2Proof.Machine.execBwr4 s
  | .irqa => Sys2Proof.Machine.execIrqa s
  | .pbup => Sys2Proof.Machine.execPbup s
  | .shdw => Sys2Proof.Machine.execShdw s

end Sys2Proof.Machine
end

