-- ==== Sys2Proof/Machine/Schedule.lean ====
section
/-! DEFINITION. Which agent moves next and what it brings (R14, R15, R71): the head of the agenda, the bytes of the
operation it asks for, the panel's change and the reset event. -/

namespace Sys2Proof.Machine

/-- What happens next: the head of the agenda, or a step of the Loop agent, which is always enabled (R14, R15). -/
def State.pending (s : State) : Stimulus :=
  match s.agenda with
  | [] => .loop
  | x :: _ => x

/-- The state with the head of the agenda taken. -/
def State.consume (s : State) : State := s.setAgenda s.agenda.tail

/-- The bytes of the operation to run next: the event word the Host agent delivers, or the position of the sequencer.
There is no instruction memory (R78). None for the Panel agent and for reset, which run no operation. -/
def State.fetch (s : State) : List Byte :=
  match s.pending with
  | .loop => [BitVec.ofNat 8 s.seq.val]
  | .host word => eventBytes word
  | .panel _ _ => []
  | .rst => []

/-- The Panel agent sets the contacts of bank `k` (R104, R169): no state of the block changes. -/
def State.panelChange (s : State) (k : Fin 5) (closed : Option Contacts) : State :=
  s.setContacts (s.contacts.set k closed)

/-- The reset event: every element of the block at its reset value, whatever it was (R260); the agents around the block
keep theirs (log entry 9). -/
def State.resetBlock (s : State) : State :=
  (((State.reset.setAgenda s.agenda).setContacts s.contacts).setSenseDraws s.senseDraws).setReadDraws s.readDraws

end Sys2Proof.Machine
end

