-- ==== Sys2Proof/Machine/Step.lean ====
section
/-! DEFINITION. One step of the whole machine: the agent at the head of the agenda moves (R14, R71). -/

namespace Sys2Proof.Machine

/-- Decode the bytes that stand next and run the operation they name; an event word that is not an event is refused. -/
def runFetched (s : State) : Host.Outcome State Fault Refusal :=
  match decode s.fetch with
  | .ok i => exec i s.consume
  | .error why => .refused (.undecodable why)

/-- One atomic step of one agent, or the reset event (R14, R260). -/
def step (s : State) : Host.Outcome State Fault Refusal :=
  match s.pending with
  | .loop => runFetched s
  | .host _ => runFetched s
  | .panel k closed => .next (s.consume.panelChange k closed)
  | .rst => .next s.consume.resetBlock

/-- The state in which the next step runs exactly the operation whose table word is `w`: a position goes to the
sequencer and the Loop agent is next; an event word is delivered next (log entry 16). A position above 70 has no place
in the state (R102): nothing changes then. -/
def State.withFetchWord (s : State) (nbits w : Nat) : State :=
  if nbits ≤ 8 then
    if h : w < 71 then (s.setSeq ⟨w, h⟩).setAgenda (.loop :: s.agenda) else s
  else s.setAgenda (.host (BitVec.ofNat 18 w) :: s.agenda)

end Sys2Proof.Machine
end

