-- ==== Sys2Proof/Machine/Ports.lean ====
section
/-! DEFINITION. The output ports as functions of the state (R50, R51). -/

namespace Sys2Proof.Machine

/-- `lamp_oe[p]` = 1 iff wire `p` is driven (R51). -/
def State.lampOe (s : State) : BitVec 5 := patternOE s.w

/-- `lamp_do[p]` = 1 iff wire `p` is driven High (R51). -/
def State.lampDo (s : State) : BitVec 5 := patternDO s.w

/-- `sel[k]` = 0 iff select line `k` is `Active`: Active drives Low, Idle drives High (R51, R168). -/
def State.selPort (s : State) : BitVec 5 := fiveBits fun k => s.sel[k] == .idle

/-- `irq_oe` = 1 iff the interrupt line is `Asserted` (driven Low); 0 floats it (R51). -/
def State.irqOe (s : State) : Bool := s.irq == .asserted

end Sys2Proof.Machine
end

