-- ==== Sys2Proof/Safety.lean ====
section
/-! DEFINITION. What claims about a run speak of: which lamp is lit (R152), the invariant of the fixed cycle, the
relation between the bank registers and the scanner (R186), what a stretch of Loop steps shows on the wires (R153), and
the runs of R17, finite and infinite, with what is observable of them. -/

namespace Sys2Proof.Machine

/-- The lamp (as a mask bit) that is held lit while the sequencer stands at `p`: between `LON(i)` and `LOFF(i)`, that is
at position `5 + 2i` (R101, R151, R194). -/
def heldLamp (p : SeqPos) : Option (Fin 20) :=
  if h : 5 ≤ p.val ∧ p.val ≤ 43 ∧ p.val % 2 = 1 then some ⟨(p.val - 5) / 2, by omega⟩ else none

/-- What the lamp wires hold while the sequencer stands at `p` (R153). -/
def heldPattern (p : SeqPos) : WirePattern :=
  match heldLamp p with
  | some i => lampPattern i
  | none => allFloat

/-- Lamp identity `i + 1` is lit (R152). -/
def State.lit (s : State) (i : Fin 20) : Prop := s.w = lampPattern i

/-- The sequencer stands between `SELA(k)` and `SELI(k)` (R164). -/
def bankHeld (p : SeqPos) (k : Fin 5) : Prop := p.val = 48 + 3 * k.val ∨ p.val = 49 + 3 * k.val

/-- What every state of a run from reset has, whatever the host and the panel do. -/
structure State.Inv (s : State) : Prop where
  /-- The wires hold the lamp the position names, and float everywhere else (R148 corner case (a), R153). -/
  wires : s.w = heldPattern s.seq
  /-- A lamp is lit only when the Current Snapshot requests it (R147, R148). -/
  requested : ∀ i : Fin 20, heldLamp s.seq = some i → (lampMask s.cur).getLsbD i.val = true
  /-- Select line `k` is `Active` exactly between `SELA(k)` and `SELI(k)` (R164). -/
  lines : ∀ k : Fin 5, s.sel[k] = .active ↔ bankHeld s.seq k
  /-- Bits 7 to 3 of every bank byte are zero (R26, R163). -/
  banks : ∀ k : Fin 5, s.btn[k].toNat < 8 ∧ s.pbtn[k].toNat < 8
  /-- `RFCL` is reached only from an `RFSH` that found `RC` = 1 (R77, R121). -/
  changeSeen : s.seq.val = 1 → s.rc = true
  /-- `ACKCL` is reached only from an `ACK` that found `BC` = 1 and released the line (R77, R181). -/
  readSeen : s.seq.val = 3 → s.bc = true ∧ s.irq = .deasserted
  /-- The write-back is reached only on a difference (R176). -/
  differs : 63 ≤ s.seq.val → s.seq.val ≤ 68 → s.snapshotChanged = true
  /-- From `PBUP` to the next sample the two snapshots are equal (R179). -/
  settled : s.seq.val ≤ 48 ∨ s.seq.val = 70 → s.btn = s.pbtn
  /-- `PBUP` finds a difference only with the line `Asserted` (R178, R182). -/
  announced : s.seq.val = 69 → s.snapshotChanged = true → s.irq = .asserted
  /-- Between `SHDW` and the next `RFSH` the two register snapshots are equal (R124 corner case (b)). -/
  shadow : s.seq.val = 0 → s.prev = s.cur

/-- The bank registers follow the scanner: bank `k` has been written back once the sequencer is past `BWR(k)`, and holds
the previous snapshot before (R186). -/
def State.banksTrack (s : State) : Prop :=
  ∀ k : Fin 5, s.rf[8 + k.val] = if 64 + k.val ≤ s.seq.val then s.btn[k] else s.pbtn[k]

/-- The stimulus is a host write to one of the offsets 8 to 12. -/
def Stimulus.writesBank (x : Stimulus) : Bool :=
  match x with
  | .host word =>
    match decodeEvent word with
    | .ok (.hwb off _) => isBankOffset off
    | _ => false
  | _ => false

/-- The stimulus is a host read of one of the offsets 8 to 12. -/
def Stimulus.readsBank (x : Stimulus) : Bool :=
  match x with
  | .host word =>
    match decodeEvent word with
    | .ok (.hrd off _) => isBankOffset off
    | _ => false
  | _ => false

/-- The event words that the Host agent will deliver, in order. -/
def hostWords (agenda : List Stimulus) : List EventWord :=
  agenda.filterMap fun x =>
    match x with
    | .host word => some word
    | .loop | .panel _ _ | .rst => none

/-- `n` steps of the machine, stopping at the first refusal. -/
def runSteps (n : Nat) (s : State) : Host.Outcome State Fault Refusal :=
  match n with
  | 0 => .next s
  | n + 1 =>
    match step s with
    | .next t => runSteps n t
    | .fault r => .fault r
    | .refused r => .refused r

/-- The values the lamp wires hold after each of the next `n` steps. -/
def wiresDuring (n : Nat) (s : State) : List WirePattern :=
  match n with
  | 0 => []
  | n + 1 =>
    match step s with
    | .next t => t.w :: wiresDuring n t
    | .fault _ => []
    | .refused _ => []

/-- The state in which `x` is what happens next, and nothing else is fixed (R14). -/
def State.choose (s : State) (x : Stimulus) : State := s.setAgenda [x]

/-- An infinite run (R17): at every step the one of `choices` moves, and the step answers the next of `states`. A run need
not end in Loop steps alone, as the finite agenda of one state does: `choices` never ends. -/
def InfiniteRun (choices : Nat → Stimulus) (states : Nat → State) : Prop :=
  ∀ n : Nat, step ((states n).choose (choices n)) = .next (states (n + 1))

/-- Fairness: the Loop agent steps infinitely often (R17, R290). -/
def Fair (choices : Nat → Stimulus) : Prop := ∀ n : Nat, ∃ m : Nat, n ≤ m ∧ choices m = .loop

/-- The infinite fair interleavings of the three agents: no reset event, which is a step of no agent (R17, R260). -/
structure FairInterleaving (choices : Nat → Stimulus) (states : Nat → State) : Prop where
  run : InfiniteRun choices states
  fair : Fair choices
  agents : ∀ n : Nat, choices n ≠ .rst

/-- What an observer outside the block sees of one step (R17). -/
structure Observation where
  /-- The byte an `HRD` returned, if the step was one. -/
  returned : Option Byte
  w : WirePattern
  sel : SelectLines
  irq : IrqLine
  deriving DecidableEq, Repr

/-- The stimulus is a host read. -/
def Stimulus.isRead (x : Stimulus) : Bool :=
  match x with
  | .host word => word.extractLsb' 16 2 == 2
  | .loop | .panel _ _ | .rst => false

/-- The observation of the step that `x` brought and that ended in `t` (R17). -/
def observe (x : Stimulus) (t : State) : Observation where
  returned := if x.isRead then some t.hrdData else none
  w := t.w
  sel := t.sel
  irq := t.irq

/-- What is observable of an infinite run, step by step (R17). -/
def observations (choices : Nat → Stimulus) (states : Nat → State) (n : Nat) : Observation :=
  observe (choices n) (states (n + 1))

/-- How many of the mask bits 0 to 19 are set (R198). -/
def requestedLamps (m : BitVec 32) : Nat := (List.finRange 20).countP fun i => m.getLsbD i.val

/-- Two states that differ at most in `PREV`, `hrd_data`, the number of read draws, the bytes of `RF` and `CUR` outside the
lamp mask, and mask bits 20 to 31: none of these reaches a pin (R25, R33, R35, R237, R282). -/
structure State.SamePins (s t : State) : Prop where
  rfMask : ∀ i : Fin 20, (lampMask s.rf).getLsbD i.val = (lampMask t.rf).getLsbD i.val
  curMask : ∀ i : Fin 20, (lampMask s.cur).getLsbD i.val = (lampMask t.cur).getLsbD i.val
  btn : s.btn = t.btn
  pbtn : s.pbtn = t.pbtn
  rc : s.rc = t.rc
  bc : s.bc = t.bc
  irq : s.irq = t.irq
  w : s.w = t.w
  sel : s.sel = t.sel
  seq : s.seq = t.seq
  contacts : s.contacts = t.contacts
  senseDraws : s.senseDraws = t.senseDraws
  agenda : s.agenda = t.agenda

end Sys2Proof.Machine
end

