-- ==== Sys2Proof/Certificates/Slice0/Obligations.lean ====
section
/-! DEFINITION. The statements for the provers: the encodings, one result statement for each of the twenty operations
(each says that the operation answers a next state, its result and its frame), and the rules about the whole machine. -/

open Sys2Proof Sys2Proof.Machine

/-! ## Formats -/

/-- Decoding the encoding of an operation gives it back, with every operand at every value (R96, R101). -/
def Obligations.DecodeOfEncodeIsTheOperation : Prop :=
  ∀ i : Instr, decode (encode i) = .ok i

/-- Whatever bytes the decoder accepts are the encoding of what it reads: no bit is dropped and no two words are read as one
operation (formats: R96, R101). The model's choices here: the ignored field `b` of an `HRD` word is kept in the operation,
although R96 gives it no meaning (log entry 20), and bits above the 18 of an event word are refused and not ignored (log
entry 11). -/
def Obligations.EncodeOfDecodeIsTheBytes : Prop :=
  ∀ (bytes : List Byte) (i : Instr), decode bytes = .ok i → encode i = bytes

/-- A few words written out from R96 and R101, read as the operations they stand for. Positions above 70 and kind `11` are
reserved by R102; that the decoder rejects each under a name of its own is the model's choice (log entry 12), and so is
that it rejects bits above the 18 of an event word, which R102 does not speak of (log entry 11). -/
def Obligations.WordsOfTheSpecDecode : Prop :=
  decodeTableWord 24 0x00401 = some (.hwb 4 1) ∧ decodeTableWord 24 0x0FEAA = some (.hwb 254 0xAA) ∧
  decodeTableWord 24 0x10404 = some (.hwc 4 4) ∧ decodeTableWord 24 0x20C00 = some (.hrd 12 0) ∧
  decodeTableWord 8 0 = some .rfsh ∧ decodeTableWord 8 2 = some .ack ∧ decodeTableWord 8 4 = some .lon0 ∧
  decodeTableWord 8 43 = some .loff19 ∧ decodeTableWord 8 44 = some .lend ∧ decodeTableWord 8 46 = some .ver1 ∧
  decodeTableWord 8 60 = some .samp4 ∧ decodeTableWord 8 67 = some .bwr4 ∧ decodeTableWord 8 70 = some .shdw ∧
  (∀ p : Byte, 71 ≤ p.toNat → decode [p] = .error .reservedPosition) ∧
  (∀ a b : Byte, decode (eventBytes (eventWord 3 a b)) = .error .notAnEvent) ∧
  (∀ b a k : Byte, k.extractLsb' 2 6 ≠ 0 → decode [b, a, k] = .error .excessBits)

/-- The twenty operations of R100 with their indices are all there is, and the indexed ones stand at the positions R101
gives them. -/
def Obligations.OperationsAreTheTwentyOfTheMap : Prop :=
  (∀ x : Instr, (∃ off v, x = .hwb off v) ∨ (∃ off n, x = .hwc off n) ∨ (∃ off u, x = .hrd off u) ∨
    x ∈ [Instr.rfsh, .rfcl, .ack, .ackcl, .lend, .ver0, .ver1, .bcmp, .irqa, .pbup, .shdw] ∨
    (∃ i, x = lon i) ∨ (∃ i, x = loff i) ∨ (∃ k, x = sela k) ∨ (∃ k, x = samp k) ∨ (∃ k, x = seli k) ∨
    (∃ k, x = bwr k)) ∧
  (∀ i : Fin 20, encode (lon i) = [BitVec.ofNat 8 (4 + 2 * i.val)] ∧
    encode (loff i) = [BitVec.ofNat 8 (5 + 2 * i.val)]) ∧
  (∀ k : Fin 5, encode (sela k) = [BitVec.ofNat 8 (47 + 3 * k.val)] ∧
    encode (samp k) = [BitVec.ofNat 8 (48 + 3 * k.val)] ∧ encode (seli k) = [BitVec.ofNat 8 (49 + 3 * k.val)] ∧
    encode (bwr k) = [BitVec.ofNat 8 (63 + k.val)])

/-- The wire pattern word: bit `5 + p` and bit `p` are as R95 gives them for the state of wire `p`, every pattern comes
back from its word, and a word's wire with `OE` = 0 reads as `Float`. -/
def Obligations.WirePatternWordRoundTrip : Prop :=
  (∀ (w : WirePattern) (p : Fin 5),
    (encodePattern w).getLsbD (5 + p.val) = (w[p] != .float) ∧ (encodePattern w).getLsbD p.val = (w[p] == .driveHigh)) ∧
  (∀ w : WirePattern, decodePattern (encodePattern w) = w) ∧
  (∀ (x : BitVec 10) (p : Fin 5), x.getLsbD (5 + p.val) = false → (decodePattern x)[p] = .float)

/-! ## The register-offset space and the operands -/

/-- Offsets 0 to 254 each hold a byte, offset 255 holds none; a byte stored is read back at its offset and nowhere else,
and a store at 255 changes nothing (R60, R66, R70). -/
def Obligations.StoreThenReadOfOneByte : Prop :=
  ∀ (m : RegFile) (off a : Offset) (v : Byte),
    (m.read off = none ↔ off = 255) ∧
    (off ≠ 255 → (m.write off v).read off = some v) ∧
    (a ≠ off ∨ off = 255 → (m.write off v).read a = m.read a)

/-- The two multi-byte fields are little-endian: bit `i` of the lamp mask is bit `i mod 8` of the byte at offset
`4 + i div 8`, bit `i` of the version that of the byte at offset `i div 8` (R31, R33, R61, R97). -/
def Obligations.FieldsAreLittleEndian : Prop :=
  (∀ (m : RegFile) (i : Fin 32) (v : Byte),
    m.read (BitVec.ofNat 8 (4 + i.val / 8)) = some v → (lampMask m).getLsbD i.val = v.getLsbD (i.val % 8)) ∧
  (∀ (m : RegFile) (i : Fin 16) (v : Byte),
    m.read (BitVec.ofNat 8 (i.val / 8)) = some v → (versionField m).getLsbD i.val = v.getLsbD (i.val % 8))

/-- Every entry of the lamp table has one wire driven Low, one driven High and three floated, so two bits of `OE`, one of
`DO`, `DO & ~OE = 0`; no two identities share a pattern; every ordered pair of different wires is some identity's; the
two fixed entries are the pairs (2, 4) and (0, 2) (R142, R143). -/
def Obligations.LampTableIsABijection : Prop :=
  (∀ i : Fin 20, (lampPattern i).count .driveLow = 1 ∧ (lampPattern i).count .driveHigh = 1 ∧
    (lampPattern i).count .float = 3) ∧
  (∀ i : Fin 20, (List.finRange 5).countP (fun p => (patternOE (lampPattern i)).getLsbD p.val) = 2 ∧
    (List.finRange 5).countP (fun p => (patternDO (lampPattern i)).getLsbD p.val) = 1 ∧
    patternDO (lampPattern i) &&& ~~~ patternOE (lampPattern i) = 0) ∧
  (∀ i j : Fin 20, lampPattern i = lampPattern j → i = j) ∧
  (∀ low high : Fin 5, low ≠ high → ∃ i : Fin 20,
    (lampPattern i)[low] = .driveLow ∧ (lampPattern i)[high] = .driveHigh) ∧
  (lampPattern 0)[2] = .driveLow ∧ (lampPattern 0)[4] = .driveHigh ∧
  (lampPattern 1)[0] = .driveLow ∧ (lampPattern 1)[2] = .driveHigh

/-- `Pattern` is total: the table inside 1 to 20, `AllFloat` outside, identity 0 included; the two entries of the source
(R141, R144). -/
def Obligations.PatternIsTotal : Prop :=
  (∀ i : Fin 20, pattern (i.val + 1) = lampPattern i) ∧
  (∀ id : Int, id < 1 ∨ 20 < id → ∀ p : Fin 5, (pattern id)[p] = .float) ∧
  pattern 1 = #v[.float, .float, .driveLow, .float, .driveHigh] ∧
  pattern 2 = #v[.driveLow, .float, .driveHigh, .float, .float]

/-- The encoder: `OE[p]` = 1 iff the pattern drives wire `p`, `DO[p]` = 1 iff it drives it High; its values for
identities 1 and 2 and outside the table (R154). -/
def Obligations.EncoderOfALamp : Prop :=
  (∀ (id : Int) (p : Fin 5), (enc id).1.getLsbD p.val = ((pattern id)[p] != .float) ∧
    (enc id).2.getLsbD p.val = ((pattern id)[p] == .driveHigh)) ∧
  enc 1 = (0b10100, 0b10000) ∧ enc 2 = (0b00101, 0b00100) ∧
  (∀ id : Int, id < 1 ∨ 20 < id → enc id = (0, 0))

/-- The inversion law: the stored byte is `7 - s`, bit `j` is 1 exactly when line `j` is Low, bits 7 to 3 are 0
(R99, R165). -/
def Obligations.BankByteInvertsAndMasks : Prop :=
  ∀ levels : SenseLevels, (bankByte levels).toNat = 7 - levels.toNat ∧
    (∀ j : Fin 3, (bankByte levels).getLsbD j.val = !levels.getLsbD j.val) ∧ (bankByte levels).extractLsb' 3 5 = 0

/-- The output ports: enable and level of each lamp wire, Low for an `Active` select line, the interrupt line driven
when `Asserted` (R51). -/
def Obligations.PortsShowTheLatches : Prop :=
  ∀ (s : State) (p : Fin 5), s.lampOe.getLsbD p.val = (s.w[p] != .float) ∧
    s.lampDo.getLsbD p.val = (s.w[p] == .driveHigh) ∧ s.selPort.getLsbD p.val = (s.sel[p] != .active) ∧
    s.irqOe = (s.irq == .asserted)

/-! ## One result statement for each operation: it answers a next state, with this result and this frame -/

/-- `RFSH`, position 0 (R120): the flag itself stays, `CUR` stays while `RC` = 0. -/
def Obligations.RefreshCopiesWhenChanged : Prop :=
  encode .rfsh = [0] ∧
  ∀ s : State, exec .rfsh s = .next (if s.rc then { s with cur := s.rf, seq := 1 } else { s with seq := 2 })

/-- `RFCL`, position 1 (R121). That it is a step of its own is decision D13 (log entry 10); that only an `RFSH` which
found `RC` = 1 leads to it is `EveryStepKeepsTheCycle`. -/
def Obligations.RefreshClearEndsTheChange : Prop :=
  encode .rfcl = [1] ∧ ∀ s : State, exec .rfcl s = .next { s with rc := false, seq := 2 }

/-- `VER0`, position 45, writes the low version byte to offset 0, `VER1`, position 46, the high one to offset 1; no other
byte, no flag (R122, R123). One step per byte, the low one first, is decision D18 (log entry 13). -/
def Obligations.VersionBytesAreWritten : Prop :=
  encode .ver0 = [45] ∧ encode .ver1 = [46] ∧
  (∀ s : State, ∃ m : RegFile, exec .ver0 s = .next { s with rf := m, seq := 46 } ∧
    m.read 0 = some (Config.fwVersion.extractLsb' 0 8) ∧ ∀ a : Offset, a ≠ 0 → m.read a = s.rf.read a) ∧
  (∀ s : State, ∃ m : RegFile, exec .ver1 s = .next { s with rf := m, seq := 47 } ∧
    m.read 1 = some (Config.fwVersion.extractLsb' 8 8) ∧ ∀ a : Offset, a ≠ 1 → m.read a = s.rf.read a)

/-- `SHDW`, position 70 (R124). -/
def Obligations.ShadowCopiesTheSnapshot : Prop :=
  encode .shdw = [70] ∧ ∀ s : State, exec .shdw s = .next { s with prev := s.cur, seq := 0 }

/-- `LON(i)`, position `4 + 2i`, for every `i` (R148); bits 20 to 31 of the mask are never tested. That the wires are
`AllFloat` before it (corner case (a), the spec's derivation) is `EveryStepKeepsTheCycle`. -/
def Obligations.LampOnFollowsItsMaskBit : Prop :=
  ∀ i : Fin 20, encode (lon i) = [BitVec.ofNat 8 (4 + 2 * i.val)] ∧ ∀ s : State, exec (lon i) s = .next
    (if (lampMask s.cur).getLsbD i.val then { s with w := pattern (i.val + 1), seq := Fin.ofNat 71 (5 + 2 * i.val) }
     else { s with seq := Fin.ofNat 71 (6 + 2 * i.val) })

/-- `LOFF(i)`, position `5 + 2i`, for every `i` (R149). That only a `LON(i)` which lit its lamp leads to it is
`EveryStepKeepsTheCycle`. -/
def Obligations.LampOffFloatsTheWires : Prop :=
  ∀ i : Fin 20, encode (loff i) = [BitVec.ofNat 8 (5 + 2 * i.val)] ∧ ∀ s : State, exec (loff i) s = .next
    { s with w := #v[.float, .float, .float, .float, .float], seq := Fin.ofNat 71 (6 + 2 * i.val) }

/-- `LEND`, position 44 (R150). -/
def Obligations.PassEndFloatsTheWires : Prop :=
  encode .lend = [44] ∧
  ∀ s : State, exec .lend s = .next { s with w := #v[.float, .float, .float, .float, .float], seq := 45 }

/-- `SELA(k)`, position `47 + 3k`, for every `k`: line `k` goes `Active` and its port Low, the other four stay (R161). That
an `Active` line is Low is decision D6 (R168, R51; log entry 15, unsafe for claims about levels). -/
def Obligations.SelectDrivesOneLine : Prop :=
  ∀ k : Fin 5, encode (sela k) = [BitVec.ofNat 8 (47 + 3 * k.val)] ∧ ∀ s : State, ∃ lines : SelectLines,
    exec (sela k) s = .next { s with sel := lines, seq := Fin.ofNat 71 (48 + 3 * k.val) } ∧
    lines[k] = .active ∧ (∀ j : Fin 5, j ≠ k → lines[j] = s.sel[j]) ∧
    ({ s with sel := lines } : State).selPort.getLsbD k.val = false

/-- `SELI(k)`, position `49 + 3k`, for every `k`: line `k` goes `Idle` and its port High, the other four stay (R162). -/
def Obligations.DeselectReturnsOneLine : Prop :=
  ∀ k : Fin 5, encode (seli k) = [BitVec.ofNat 8 (49 + 3 * k.val)] ∧ ∀ s : State, ∃ lines : SelectLines,
    exec (seli k) s = .next { s with sel := lines, seq := Fin.ofNat 71 (50 + 3 * k.val) } ∧
    lines[k] = .idle ∧ (∀ j : Fin 5, j ≠ k → lines[j] = s.sel[j]) ∧
    ({ s with sel := lines } : State).selPort.getLsbD k.val = true

/-- `SAMP(k)`, position `48 + 3k`, for every `k` and in every state: some three levels are read, the byte stored has bit
`j` = 1 exactly where line `j` is Low and bits 7 to 3 zero, no other bank changes (R163). That line `j` is bit `j` is
decision D7 (log entry 15). While `k` is the only selected bank and the Panel agent has fixed its contacts, the byte
shows exactly the closed switches and no free value is drawn (R104, R169: the matrix is decision D26, log entry 5). -/
def Obligations.SampleStoresTheInvertedLevels : Prop :=
  ∀ k : Fin 5, encode (samp k) = [BitVec.ofNat 8 (48 + 3 * k.val)] ∧
  (∀ s : State, ∃ (levels : SenseLevels) (banks : BankBytes) (drawn : Nat),
    exec (samp k) s = .next { s with btn := banks, senseDraws := drawn, seq := Fin.ofNat 71 (49 + 3 * k.val) } ∧
    banks[k] = (~~~ levels &&& 0b111).setWidth 8 ∧ ∀ j : Fin 5, j ≠ k → banks[j] = s.btn[j]) ∧
  (∀ (s : State) (closed : Contacts), (∀ j : Fin 5, s.sel[j] = .active ↔ j = k) → s.contacts[k] = some closed →
    ∃ banks : BankBytes, exec (samp k) s = .next { s with btn := banks, seq := Fin.ofNat 71 (49 + 3 * k.val) } ∧
    banks[k] = closed.setWidth 8 ∧ ∀ j : Fin 5, j ≠ k → banks[j] = s.btn[j])

/-- `ACK`, position 2 (R180): it asks nothing but the flag, and the flag stays. -/
def Obligations.AcknowledgeReleasesTheLine : Prop :=
  encode .ack = [2] ∧
  ∀ s : State, exec .ack s = .next (if s.bc then { s with irq := .deasserted, seq := 3 } else { s with seq := 4 })

/-- `ACKCL`, position 3 (R181). That it is a step of its own is decision D13 (log entry 10); that only an `ACK` which
found `BC` = 1 leads to it is `EveryStepKeepsTheCycle`. -/
def Obligations.AcknowledgeClearEndsTheRead : Prop :=
  encode .ackcl = [3] ∧ ∀ s : State, exec .ackcl s = .next { s with bc := false, seq := 4 }

/-- `BCMP`, position 62: any one differing byte takes the branch (R176). -/
def Obligations.CompareBranchesOnAnyByte : Prop :=
  encode .bcmp = [62] ∧
  ∀ s : State, ((∃ k : Fin 5, s.btn[k] ≠ s.pbtn[k]) → exec .bcmp s = .next { s with seq := 63 }) ∧
    ((∀ k : Fin 5, s.btn[k] = s.pbtn[k]) → exec .bcmp s = .next { s with seq := 69 })

/-- `BWR(k)`, position `63 + k`, for every `k`: bank `k` to offset `8 + k` and no other byte; no flag (R177). One step per
byte and the ascending order are decision D18 (log entry 13). -/
def Obligations.WriteBackStoresOneBank : Prop :=
  ∀ k : Fin 5, encode (bwr k) = [BitVec.ofNat 8 (63 + k.val)] ∧ ∀ s : State, ∃ m : RegFile,
    exec (bwr k) s = .next { s with rf := m, seq := Fin.ofNat 71 (64 + k.val) } ∧
    m.read (BitVec.ofNat 8 (8 + k.val)) = some s.btn[k] ∧
    ∀ a : Offset, a ≠ BitVec.ofNat 8 (8 + k.val) → m.read a = s.rf.read a

/-- `IRQA`, position 68 (R178). That it is reached only after `BWR(4)` is `BanksAreWrittenBeforeTheLineRises`. -/
def Obligations.AssertRaisesTheLine : Prop :=
  encode .irqa = [68] ∧ ∀ s : State, exec .irqa s = .next { s with irq := .asserted, seq := 69 }

/-- `PBUP`, position 69 (R179). -/
def Obligations.RememberCopiesTheBanks : Prop :=
  encode .pbup = [69] ∧ ∀ s : State, exec .pbup s = .next { s with pbtn := s.btn, seq := 70 }

/-- `HWB off, val`: the byte lands at any offset 0 to 254, no other byte and nothing else changes; at 255 nothing changes
(R70, R210). That a byte lands whoever owns it is decision D14, what happens at 255 is D15 (log entries 14 and 6). -/
def Obligations.HostByteLands : Prop :=
  ∀ (off : Offset) (val : Byte) (s : State), ∃ m : RegFile,
    exec (.hwb off val) s = .next { s with rf := m } ∧
    (off ≠ 255 → m.read off = some val) ∧ ∀ a : Offset, a ≠ off ∨ off = 255 → m.read a = s.rf.read a

/-- `HWC off, len`: `RC` is set whatever the operands are, a length of 0 included, which is decision D16 (R211). -/
def Obligations.HostCompletionSetsTheFlag : Prop :=
  ∀ (off : Offset) (len : Byte) (s : State), exec (.hwc off len) s = .next { s with rc := true }

/-- `HRD off`: the byte at the offset is returned, `BC` is set for offsets 8 to 12 and only for them; at 255 some byte is
returned and no flag is set; nothing else changes (R70, R212). Fetch and flag in one step is decision D17, offset 255 is
D15 (log entries 13 and 6). -/
def Obligations.HostReadReturnsTheByte : Prop :=
  ∀ (off : Offset) (unused : Byte) (s : State), ∃ (v : Byte) (drawn : Nat),
    exec (.hrd off unused) s = .next
      { s with hrdData := v, readDraws := drawn, bc := s.bc || (decide (8 ≤ off.toNat) && decide (off.toNat ≤ 12)) } ∧
    (off ≠ 255 → s.rf.read off = some v ∧ drawn = s.readDraws)

/-- One read of any one of the offsets 8 to 12 is enough: an `ACK` after it releases the line (R183). -/
def Obligations.AnyBankReadAcknowledges : Prop :=
  ∀ (off : Offset) (unused : Byte) (s : State), 8 ≤ off.toNat → off.toNat ≤ 12 → ∃ t : State,
    exec (.hrd off unused) s = .next t ∧ t.irq = s.irq ∧
    exec .ack t = .next { t with irq := .deasserted, seq := 3 }

/-! ## One step of the machine -/

/-- A step runs the decoded operation: the bytes that stand next are the position of the sequencer when the Loop agent is
next and the event word when the Host agent is; only the head of the agenda is gone when the operation runs (R14, R15). -/
def Obligations.StepRunsTheDecodedOperation : Prop :=
  ∀ s : State, (∀ i : Instr, decode s.fetch = .ok i → step s = exec i { s with agenda := s.agenda.tail }) ∧
    (s.agenda = [] ∨ s.agenda.head? = some .loop → s.fetch = [BitVec.ofNat 8 s.seq.val]) ∧
    (∀ word : EventWord, s.agenda.head? = some (.host word) → s.fetch = eventBytes word)

/-- A table word placed in any state is what the very next step runs. -/
def Obligations.PlacedWordRunsNext : Prop :=
  ∀ (s : State) (w : Nat) (i : Instr),
    (∀ p : SeqPos, p.val = w → decodeTableWord 8 w = some i → step (s.withFetchWord 8 w) = exec i { s with seq := p }) ∧
    (decodeTableWord 8 w = some i → w < 71) ∧
    (decodeTableWord 24 w = some i → step (s.withFetchWord 24 w) = exec i s)

/-- Every step of every agent completes (R195, R197, R230), except that a word of kind `11`, which is no event and is never
delivered (R102), is refused by name; that refusal is the model's choice (log entry 12). -/
def Obligations.EveryStepCompletes : Prop :=
  ∀ s : State, (∃ t : State, step s = .next t) ∨
    ∃ a b : Byte, s.agenda.head? = some (.host (eventWord 3 a b)) ∧ step s = .refused (.undecodable .notAnEvent)

/-- After reset every element of the block holds its value of R55, and so it does after the reset event from any state
(R55, R260; all but the snapshots' are decision D11, log entry 7); the agents around the block keep theirs, which is the
model's choice (log entry 9). -/
def Obligations.ResetValuesOfTheBlock : Prop :=
  (∀ (off : Offset) (v : Byte), State.reset.rf.read off = some v →
    v = if off = 0 then Config.fwVersion.extractLsb' 0 8 else if off = 1 then Config.fwVersion.extractLsb' 8 8 else 0) ∧
  (∀ (off : Offset) (v : Byte), State.reset.cur.read off = some v ∨ State.reset.prev.read off = some v → v = 0) ∧
  (∀ k : Fin 5, State.reset.btn[k] = 0 ∧ State.reset.pbtn[k] = 0 ∧ State.reset.sel[k] = .idle ∧
    State.reset.w[k] = .float) ∧
  State.reset.rc = false ∧ State.reset.bc = false ∧ State.reset.irq = .deasserted ∧ State.reset.seq = 0 ∧
  (∀ s : State, s.agenda.head? = some .rst → step s = .next
    { State.reset with
      agenda := s.agenda.tail, contacts := s.contacts, senseDraws := s.senseDraws, readDraws := s.readDraws })

/-- A change of the panel changes no state of the block (R14, R38, R104). -/
def Obligations.PanelChangesNoBlockState : Prop :=
  ∀ (s : State) (k : Fin 5) (closed : Option Contacts), s.agenda.head? = some (.panel k closed) →
    ∃ now : Vector (Option Contacts) 5, step s = .next { s with agenda := s.agenda.tail, contacts := now } ∧
      now[k] = closed ∧ ∀ j : Fin 5, j ≠ k → now[j] = s.contacts[j]

/-- The successor of every position (R192, R193). -/
def Obligations.SuccessorOfEveryPosition : Prop :=
  ∀ s : State, s.agenda = [] → ∃ t : State, step s = .next t ∧
    (s.seq.val = 0 → t.seq.val = if s.rc then 1 else 2) ∧
    (s.seq.val = 2 → t.seq.val = if s.bc then 3 else 4) ∧
    (∀ i : Fin 20, s.seq.val = 4 + 2 * i.val →
      t.seq.val = if (lampMask s.cur).getLsbD i.val then 5 + 2 * i.val else 6 + 2 * i.val) ∧
    (s.seq.val = 62 → (∃ k : Fin 5, s.btn[k] ≠ s.pbtn[k]) → t.seq.val = 63) ∧
    (s.seq.val = 62 → (∀ k : Fin 5, s.btn[k] = s.pbtn[k]) → t.seq.val = 69) ∧
    (s.seq.val = 70 → t.seq.val = 0) ∧
    (s.seq.val ∈ [1, 3] ∨ 4 < s.seq.val ∧ s.seq.val < 44 ∧ s.seq.val % 2 = 1 ∨
      44 ≤ s.seq.val ∧ s.seq.val < 70 ∧ s.seq.val ≠ 62 → t.seq.val = s.seq.val + 1)

/-! ## Rules about the whole machine -/

/-- Both invariants hold after reset (R55). -/
def Obligations.InvariantsHoldAfterReset : Prop :=
  State.reset.Inv ∧ State.reset.banksTrack

/-- Every step of every agent keeps the invariant of the cycle: the wires hold the lamp the position names and float
elsewhere, one select line is `Active` exactly inside its bank's part of the scan, bank bytes keep bits 7 to 3 zero,
`RFCL` and `ACKCL` run only after what they clear was consumed, the write-back runs only on a difference. -/
def Obligations.EveryStepKeepsTheCycle : Prop :=
  ∀ s t : State, s.Inv → step s = .next t → t.Inv

/-- The Register File follows the scanner as long as the host does not write offsets 8 to 12; at the cycle's boundary the
bank registers equal both snapshots (R186). -/
def Obligations.BankRegistersFollowTheScanner : Prop :=
  ∀ s t : State, s.Inv → s.banksTrack → s.pending.writesBank = false → step s = .next t →
    t.banksTrack ∧ (t.seq.val = 70 ∨ t.seq.val = 0 →
      ∀ k : Fin 5, t.rf.read (BitVec.ofNat 8 (8 + k.val)) = some t.btn[k] ∧ t.btn[k] = t.pbtn[k])

/-- At most one lamp is lit in any state, and lamp identity `i + 1` is lit exactly between its `LON` and its `LOFF`
(R152, R153). -/
def Obligations.AtMostOneLampIsLit : Prop :=
  (∀ (s : State) (i j : Fin 20), s.lit i → s.lit j → i = j) ∧
  (∀ (s : State) (i : Fin 20), s.Inv → (s.lit i ↔ s.seq.val = 5 + 2 * i.val))

/-- A host event is told by its word, kind in bits 17 and 16, `a` in bits 15 to 8, `b` in bits 7 to 0 (R96): kind 0 puts `b`
at offset `a` and leaves every other offset, any other kind leaves all of `RF`; kind 1 alone sets `RC`, kind 2 alone and
only for `a` from 8 to 12 sets `BC`, and no flag is cleared. It touches nothing that the Loop agent owns: not the
snapshots, not the button state, not `IRQ`, `W`, `SEL`, not `seq`; nor does it read the snapshots or the button state:
whatever they hold, it does the same (R236). What a read changes beside `BC`, the byte returned and the number of read
draws, the Loop agent's next step does not read (R237). That a write to offset 255 changes nothing is decision D15 (log
entry 6), that `hrd_data` keeps its byte is the model's choice (log entry 8). -/
def Obligations.HostEventsTouchOnlyTheirOwn : Prop :=
  ∀ (s t : State) (word : EventWord), s.agenda.head? = some (.host word) → step s = .next t →
    t = { s with
      rf := t.rf, rc := t.rc, bc := t.bc, hrdData := t.hrdData, readDraws := t.readDraws, agenda := s.agenda.tail } ∧
    (∀ a : Offset, word.extractLsb' 16 2 = 0 → a = word.extractLsb' 8 8 → a ≠ 255 →
      t.rf.read a = some (word.extractLsb' 0 8)) ∧
    (∀ a : Offset, word.extractLsb' 16 2 ≠ 0 ∨ a ≠ word.extractLsb' 8 8 ∨ a = 255 → t.rf.read a = s.rf.read a) ∧
    t.rc = (s.rc || word.extractLsb' 16 2 == 1) ∧
    t.bc = (s.bc || (word.extractLsb' 16 2 == 2 && isBankOffset (word.extractLsb' 8 8))) ∧
    (word.extractLsb' 16 2 ≠ 2 → t.hrdData = s.hrdData ∧ t.readDraws = s.readDraws) ∧
    (∀ (cur prev : RegFile) (btn pbtn : BankBytes),
      step { s with cur := cur, prev := prev, btn := btn, pbtn := pbtn } =
        .next { t with cur := cur, prev := prev, btn := btn, pbtn := pbtn }) ∧
    ∀ (v : State) (byte : Byte) (drawn : Nat), step { t with agenda := [] } = .next v →
      step { t with agenda := [], hrdData := byte, readDraws := drawn } =
        .next { v with hrdData := byte, readDraws := drawn }

/-- The Loop agent sets neither flag (R27, R28, R77), writes only the version and bank bytes of the Register File (R39), and
leaves `RC` as it was where it writes one (R126). That it leaves `hrd_data` and the panel's contacts as they are is the
model's choice (log entries 8 and 5). -/
def Obligations.LoopStepsTouchOnlyTheirOwn : Prop :=
  ∀ s t : State, s.pending = .loop → step s = .next t →
    (t.rc = true → s.rc = true) ∧ (t.bc = true → s.bc = true) ∧
    (∀ a : Offset, 2 ≤ a.toNat ∧ a.toNat < 8 ∨ 12 < a.toNat → t.rf.read a = s.rf.read a) ∧
    (t.rf ≠ s.rf → t.rc = s.rc) ∧ t.hrdData = s.hrdData ∧ t.contacts = s.contacts

/-- The Current Snapshot changes only where `RFSH` finds `RC` = 1, and then it is the whole Register File of that instant,
or by reset (R24, R67, R120). -/
def Obligations.SnapshotChangesOnlyAtRefresh : Prop :=
  ∀ s t : State, step s = .next t → t.cur = s.cur ∨
    (s.pending = .loop ∧ s.seq.val = 0 ∧ s.rc = true ∧ t.cur = s.rf) ∨ (s.pending = .rst ∧ t.cur = State.reset.cur)

/-- While no bus write completes, `CUR` stays as it is for any number of steps, whatever else the agents do (R125). -/
def Obligations.RefreshIsIdempotent : Prop :=
  ∀ (n : Nat) (s t : State), s.rc = false →
    (∀ x ∈ s.agenda, x ≠ .rst ∧ ∀ word : EventWord, x = .host word → word.extractLsb' 16 2 ≠ 1) →
    runSteps n s = .next t → t.cur = s.cur ∧ t.rc = false

/-- The line rises only at `IRQA` and falls only at an `ACK` that finds `BC` = 1, or by reset, which ends every run;
`BC` is set only by a host read of offsets 8 to 12: a line that nobody acknowledges stays `Asserted` (R29, R187). -/
def Obligations.LineMovesOnlyInTheHandshake : Prop :=
  ∀ s t : State, step s = .next t →
    (s.irq = .deasserted → t.irq = .asserted → s.pending = .loop ∧ s.seq.val = 68) ∧
    (s.irq = .asserted → t.irq = .deasserted →
      s.pending = .loop ∧ s.seq.val = 2 ∧ s.bc = true ∨ s.pending = .rst) ∧
    (s.bc = false → t.bc = true → s.pending.readsBank = true)

/-- Data before signal: when `IRQA` moves the line, all five bank registers hold the new snapshot, which differs from the
one before (R72, R178). -/
def Obligations.BanksAreWrittenBeforeTheLineRises : Prop :=
  ∀ s t : State, s.Inv → s.banksTrack → s.pending = .loop → s.seq.val = 68 → step s = .next t →
    t.irq = .asserted ∧ (∀ k : Fin 5, t.rf.read (BitVec.ofNat 8 (8 + k.val)) = some t.btn[k]) ∧
    ∃ k : Fin 5, t.btn[k] ≠ t.pbtn[k]

/-- Nothing depends on `PREV`: whatever it holds, a step does the same to everything else. Only `SHDW` writes it, with the
`CUR` it finds, and reset, with zeros; every other step leaves in it what was there (R25). -/
def Obligations.NothingReadsThePreviousSnapshot : Prop :=
  (∀ (s t : State) (p : RegFile), step s = .next t → step { s with prev := p } = .next { t with
    prev := if s.pending = .loop ∧ s.seq.val = 70 then s.cur else if s.pending = .rst then State.reset.prev else p }) ∧
  ∀ (off : Offset) (v : Byte), State.reset.prev.read off = some v → v = 0

/-- What the ignored mask bits, the bytes outside the mask, `PREV`, `hrd_data` and the number of read draws hold never
reaches a pin nor moves the sequencer: two states that differ only there go on with all pins, flags and positions equal
(R25, R33, R35, R153, R282). -/
def Obligations.IgnoredBitsNeverReachAPin : Prop :=
  ∀ s s' t : State, s.SamePins s' → step s = .next t → ∃ t' : State, step s' = .next t' ∧ t.SamePins t'

/-! ## Several steps -/

/-- Scenario D: while one mask write is the only thing the host does, however its five events fall between the other steps,
and `RC` = 0 when it begins, the mask the lamps use is the old one or the new one, never a mixture (R127, vector E8). -/
def Obligations.MaskOfOneTransactionIsNeverTorn : Prop :=
  ∀ (n : Nat) (m : BitVec 32) (s t : State), s.rc = false → Stimulus.rst ∉ s.agenda →
    hostWords s.agenda = setLampsTransaction m → runSteps n s = .next t →
    lampMask t.cur = lampMask s.cur ∨ lampMask t.cur = m

/-- The lamp pass: from a dark start it visits exactly the set bits of the mask in ascending order, each with its pattern
and then all wires floated, in `21 + popcount` steps, and changes nothing but the position (R147, R153). -/
def Obligations.PassVisitsExactlyTheSetBits : Prop :=
  ∀ s : State, s.agenda = [] → s.seq.val = 4 → s.w = allFloat →
    runSteps (21 + requestedLamps (lampMask s.cur)) s = .next { s with seq := 45 } ∧
    wiresDuring (21 + requestedLamps (lampMask s.cur)) s =
      ((List.finRange 20).flatMap fun i =>
        if (lampMask s.cur).getLsbD i.val then [pattern (i.val + 1), allFloat] else [allFloat]) ++ [allFloat]

/-- The length of a cycle: 43 steps and one more for each flag found set, one for each requested lamp, six for a change
found at `BCMP`; the sequencer is back at 0 after them and at no earlier step (R198). -/
def Obligations.CycleTakesTheStatedSteps : Prop :=
  ∀ s : State, s.agenda = [] → s.seq.val = 0 → ∃ (m n : Nat) (u t : State),
    m < n ∧ runSteps m s = .next u ∧ u.seq.val = 62 ∧
    n = 43 + s.rc.toNat + s.bc.toNat + requestedLamps (lampMask (if s.rc then s.rf else s.cur)) +
      6 * u.snapshotChanged.toNat ∧
    runSteps n s = .next t ∧ t.seq.val = 0 ∧
    ∀ j : Nat, 0 < j → j < n → ∃ v : State, runSteps j s = .next v ∧ v.seq.val ≠ 0

/-- The handshake over one cycle, all eight combinations of the line, the flag and a change: `ACK` lets a pending read
release the line, a change found at `BCMP` asserts it (again) and writes all five banks, no change writes none; the flag is
consumed and the snapshot remembered either way (R182, R196). -/
def Obligations.HandshakeOverOneCycle : Prop :=
  ∀ s : State, s.agenda = [] → s.seq.val = 0 → ∃ (m n : Nat) (u t : State),
    m < n ∧ runSteps m s = .next u ∧ u.seq.val = 62 ∧ runSteps n s = .next t ∧ t.seq.val = 0 ∧
    (∀ j : Nat, 0 < j → j < n → ∃ v : State, runSteps j s = .next v ∧ v.seq.val ≠ 0) ∧
    u.irq = (if s.bc then .deasserted else s.irq) ∧
    t.irq = (if u.snapshotChanged then .asserted else u.irq) ∧ t.bc = false ∧ t.pbtn = u.btn ∧ t.btn = u.btn ∧
    ∀ k : Fin 5, t.rf.read (BitVec.ofNat 8 (8 + k.val)) =
      if u.snapshotChanged then some u.btn[k] else s.rf.read (BitVec.ofNat 8 (8 + k.val))

/-- Phase 4 restores the version field, whatever the host wrote there (R31, R106, R122, R123). -/
def Obligations.VersionFieldIsRestored : Prop :=
  ∀ s : State, s.agenda = [] → s.seq.val = 45 → ∃ m : RegFile,
    runSteps 2 s = .next { s with rf := m, seq := 47 } ∧ versionField m = Config.fwVersion ∧
    ∀ a : Offset, 2 ≤ a.toNat → m.read a = s.rf.read a

/-- The scanner's round trip: with the contacts of all five banks fixed and all lines idle, one scan gives exactly the
closed switches, returns every line to idle and changes nothing else (R164, R166). -/
def Obligations.ScanShowsTheClosedSwitches : Prop :=
  ∀ (s : State) (closed : Fin 5 → Contacts), s.agenda = [] → s.seq.val = 47 → (∀ k : Fin 5, s.sel[k] = .idle) →
    (∀ k : Fin 5, s.contacts[k] = some (closed k)) → ∃ banks : BankBytes,
    runSteps 15 s = .next { s with btn := banks, seq := 62 } ∧ ∀ k : Fin 5, banks[k] = (closed k).setWidth 8

/-- A whole bus write: its bytes land at consecutive ascending offsets, `RC` is set, and nothing else changes (R65, R213).
That bytes beyond offset 254 are dropped is the model's choice of words for a transaction (log entry 19), after decision
D15, by which a write outside the file changes nothing (log entry 6, unsafe on an engine that wraps to offset 0). -/
def Obligations.BusWriteLandsInOrder : Prop :=
  ∀ (s : State) (off : Nat) (bytes : List Byte),
    s.agenda = (writeTransaction off bytes).map .host → ∃ m : RegFile,
    runSteps (writeTransaction off bytes).length s = .next { s with rf := m, rc := true, agenda := [] } ∧
    ∀ a : Offset, a ≠ 255 → m.read a =
      if off ≤ a.toNat ∧ a.toNat < off + bytes.length then bytes[a.toNat - off]? else s.rf.read a

/-- Hazard: a write that lands and completes between `RFSH` and `RFCL` stays out of `CUR` with `RC` = 0 (R271). -/
def Obligations.LostNotificationIsARun : Prop :=
  ∀ (s : State) (off : Offset) (v : Byte), off ≠ 255 → s.seq.val = 1 →
    s.agenda = [.host (eventWord 0 off v), .host (eventWord 1 off 1), .loop] → ∃ t : State,
    runSteps 3 s = .next t ∧ t.rf.read off = some v ∧ t.cur = s.cur ∧ t.rc = false ∧ t.seq.val = 2

/-- Hazard: with a notification pending, an `RFSH` copies a transaction of which only the first byte has landed (R270). -/
def Obligations.TornMaskIsARun : Prop :=
  ∀ (s : State) (v : Byte), s.rc = true → s.seq.val = 0 → s.agenda = [.host (eventWord 0 4 v), .loop] →
    ∃ t : State, runSteps 2 s = .next t ∧ t.cur.read 4 = some v ∧
      ∀ a : Offset, a ≠ 4 → t.cur.read a = s.rf.read a

/-- Hazard: a bank read before the assertion releases the line at the next `ACK`, five Loop steps after `IRQA` began, or
six where `RC` = 1 and `RFCL` runs too; until then the line is `Asserted`, and `RF`, with the new snapshot, stays (R273). -/
def Obligations.StaleAcknowledgementIsARun : Prop :=
  ∀ s : State, s.agenda = [] → s.seq.val = 68 → s.bc = true →
    (∀ j : Nat, 1 ≤ j → j ≤ 4 + s.rc.toNat → ∃ u : State, runSteps j s = .next u ∧ u.irq = .asserted) ∧
    ∃ t : State, runSteps (5 + s.rc.toNat) s = .next t ∧ t.irq = .deasserted ∧ t.seq.val = 3 ∧ t.rf = s.rf
end

