-- ==== Sys2Proof/Laws/Decode.lean ====
section
/-! SUPPORT. The decoder on the two formats: what it reads from an event word and from each sequencer position. -/

namespace Sys2Proof

/-- An event word laid out in three bytes is read as the word. -/
theorem decode_eventBytes (w : EventWord) : decode (eventBytes w) = decodeEvent w := by
  have high : ((w.extractLsb' 16 2).setWidth 8).extractLsb' 2 6 = 0 := by
    ext i hi
    simp
  have whole : ((w.extractLsb' 16 2).setWidth 8).extractLsb' 0 2 ++ w.extractLsb' 8 8 ++ w.extractLsb' 0 8 = w := by
    ext i hi
    simp only [BitVec.getElem_append, BitVec.getElem_extractLsb', BitVec.getLsbD_setWidth, BitVec.getLsbD_extractLsb']
    by_cases h0 : i < 8
    · simp [h0, BitVec.getLsbD_eq_getElem hi]
    · by_cases h1 : i < 16
      · have e : 8 + (i - 8) = i := by omega
        simp [h0, show i - 8 < 8 by omega, e, BitVec.getLsbD_eq_getElem hi]
      · have e : 16 + (i - 8 - 8) = i := by omega
        simp [h0, show ¬ i - 8 < 8 by omega, show i - 8 - 8 < 2 by omega, show i - 8 - 8 < 8 by omega, e,
          BitVec.getLsbD_eq_getElem hi]
  simp only [decode, eventBytes, high, whole, if_true]

/-- The fields of an event word are those it was made of (R96). -/
@[simp] theorem kind_eventWord (kind : BitVec 2) (a b : Byte) : (eventWord kind a b).extractLsb' 16 2 = kind := by
  show (kind ++ a ++ b).extractLsb' 16 2 = kind
  ext i hi
  simp only [BitVec.getElem_extractLsb', BitVec.getLsbD_append]
  simp [show ¬ 16 + i < 8 by omega, show ¬ 16 + i - 8 < 8 by omega, show 16 + i - 8 - 8 = i by omega,
    BitVec.getLsbD_eq_getElem hi]

@[simp] theorem a_eventWord (kind : BitVec 2) (a b : Byte) : (eventWord kind a b).extractLsb' 8 8 = a := by
  show (kind ++ a ++ b).extractLsb' 8 8 = a
  ext i hi
  simp only [BitVec.getElem_extractLsb', BitVec.getLsbD_append]
  simp [hi]

@[simp] theorem b_eventWord (kind : BitVec 2) (a b : Byte) : (eventWord kind a b).extractLsb' 0 8 = b := by
  show (kind ++ a ++ b).extractLsb' 0 8 = b
  ext i hi
  simp only [BitVec.getElem_extractLsb', BitVec.getLsbD_append]
  simp [hi]

/-- What an event word with given fields is read as. -/
theorem decodeEvent_eventWord (kind : BitVec 2) (a b : Byte) :
    decodeEvent (eventWord kind a b) =
      if kind = 0 then .ok (.hwb a b) else if kind = 1 then .ok (.hwc a b)
      else if kind = 2 then .ok (.hrd a b) else .error .notAnEvent := by
  simp only [decodeEvent, kind_eventWord, a_eventWord, b_eventWord]

/-- An event word is read as one of the three events with its fields, or is no event. -/
theorem decodeEvent_cases (w : EventWord) :
    (∃ off val, w = eventWord 0 off val ∧ decodeEvent w = .ok (.hwb off val)) ∨
    (∃ off len, w = eventWord 1 off len ∧ decodeEvent w = .ok (.hwc off len)) ∨
    (∃ off b, w = eventWord 2 off b ∧ decodeEvent w = .ok (.hrd off b)) ∨
    (∃ a b, w = eventWord 3 a b ∧ decodeEvent w = .error .notAnEvent) := by
  have whole : w.extractLsb' 16 2 ++ w.extractLsb' 8 8 ++ w.extractLsb' 0 8 = w := by
    ext i hi
    simp only [BitVec.getElem_append, BitVec.getElem_extractLsb']
    by_cases h0 : i < 8
    · simp [h0, BitVec.getLsbD_eq_getElem hi]
    · by_cases h1 : i < 16
      · have e : 8 + (i - 8) = i := by omega
        simp [h0, show i - 8 < 8 by omega, e, BitVec.getLsbD_eq_getElem hi]
      · have e : 16 + (i - 8 - 8) = i := by omega
        simp [h0, show ¬ i - 8 < 8 by omega, e, BitVec.getLsbD_eq_getElem hi]
  have whole : eventWord (w.extractLsb' 16 2) (w.extractLsb' 8 8) (w.extractLsb' 0 8) = w := whole
  have kinds : ∀ k : BitVec 2, k = 0 ∨ k = 1 ∨ k = 2 ∨ k = 3 := by decide
  generalize w.extractLsb' 8 8 = a at whole
  generalize w.extractLsb' 0 8 = b at whole
  have read := decodeEvent_eventWord (w.extractLsb' 16 2) a b
  rw [whole] at read
  rcases kinds (w.extractLsb' 16 2) with h | h | h | h <;> rw [h] at whole read
  · exact .inl ⟨a, b, whole.symm, by simpa using read⟩
  · exact .inr (.inl ⟨a, b, whole.symm, by simpa using read⟩)
  · exact .inr (.inr (.inl ⟨a, b, whole.symm, by simpa using read⟩))
  · exact .inr (.inr (.inr ⟨a, b, whole.symm, by simpa using read⟩))

/-- What the decoder reads at each of the 71 positions, by the seventeen kinds of micro-operation (R101). -/
theorem decodePosition_cases : ∀ p : SeqPos,
    (p.val = 0 ∧ decodePosition (BitVec.ofNat 8 p.val) = .ok .rfsh) ∨
    (p.val = 1 ∧ decodePosition (BitVec.ofNat 8 p.val) = .ok .rfcl) ∨
    (p.val = 2 ∧ decodePosition (BitVec.ofNat 8 p.val) = .ok .ack) ∨
    (p.val = 3 ∧ decodePosition (BitVec.ofNat 8 p.val) = .ok .ackcl) ∨
    (∃ i : Fin 20, p.val = 4 + 2 * i.val ∧ decodePosition (BitVec.ofNat 8 p.val) = .ok (lon i)) ∨
    (∃ i : Fin 20, p.val = 5 + 2 * i.val ∧ decodePosition (BitVec.ofNat 8 p.val) = .ok (loff i)) ∨
    (p.val = 44 ∧ decodePosition (BitVec.ofNat 8 p.val) = .ok .lend) ∨
    (p.val = 45 ∧ decodePosition (BitVec.ofNat 8 p.val) = .ok .ver0) ∨
    (p.val = 46 ∧ decodePosition (BitVec.ofNat 8 p.val) = .ok .ver1) ∨
    (∃ k : Fin 5, p.val = 47 + 3 * k.val ∧ decodePosition (BitVec.ofNat 8 p.val) = .ok (sela k)) ∨
    (∃ k : Fin 5, p.val = 48 + 3 * k.val ∧ decodePosition (BitVec.ofNat 8 p.val) = .ok (samp k)) ∨
    (∃ k : Fin 5, p.val = 49 + 3 * k.val ∧ decodePosition (BitVec.ofNat 8 p.val) = .ok (seli k)) ∨
    (p.val = 62 ∧ decodePosition (BitVec.ofNat 8 p.val) = .ok .bcmp) ∨
    (∃ k : Fin 5, p.val = 63 + k.val ∧ decodePosition (BitVec.ofNat 8 p.val) = .ok (bwr k)) ∨
    (p.val = 68 ∧ decodePosition (BitVec.ofNat 8 p.val) = .ok .irqa) ∨
    (p.val = 69 ∧ decodePosition (BitVec.ofNat 8 p.val) = .ok .pbup) ∨
    (p.val = 70 ∧ decodePosition (BitVec.ofNat 8 p.val) = .ok .shdw) := by
  decide

end Sys2Proof
end

