-- ==== Sys2Proof/Laws/State.lean ====
section
/-! SUPPORT. What each update of the state leaves in each field, one lemma per field per update: later proofs never
unfold a record update. -/

namespace Sys2Proof.Machine.State

variable (s : State)

@[simp] theorem setRf_rf (v : RegFile) : (s.setRf v).rf = v := rfl
@[simp] theorem setRf_cur (v : RegFile) : (s.setRf v).cur = s.cur := rfl
@[simp] theorem setRf_prev (v : RegFile) : (s.setRf v).prev = s.prev := rfl
@[simp] theorem setRf_btn (v : RegFile) : (s.setRf v).btn = s.btn := rfl
@[simp] theorem setRf_pbtn (v : RegFile) : (s.setRf v).pbtn = s.pbtn := rfl
@[simp] theorem setRf_rc (v : RegFile) : (s.setRf v).rc = s.rc := rfl
@[simp] theorem setRf_bc (v : RegFile) : (s.setRf v).bc = s.bc := rfl
@[simp] theorem setRf_irq (v : RegFile) : (s.setRf v).irq = s.irq := rfl
@[simp] theorem setRf_w (v : RegFile) : (s.setRf v).w = s.w := rfl
@[simp] theorem setRf_sel (v : RegFile) : (s.setRf v).sel = s.sel := rfl
@[simp] theorem setRf_seq (v : RegFile) : (s.setRf v).seq = s.seq := rfl
@[simp] theorem setRf_hrdData (v : RegFile) : (s.setRf v).hrdData = s.hrdData := rfl
@[simp] theorem setRf_contacts (v : RegFile) : (s.setRf v).contacts = s.contacts := rfl
@[simp] theorem setRf_senseDraws (v : RegFile) : (s.setRf v).senseDraws = s.senseDraws := rfl
@[simp] theorem setRf_readDraws (v : RegFile) : (s.setRf v).readDraws = s.readDraws := rfl
@[simp] theorem setRf_agenda (v : RegFile) : (s.setRf v).agenda = s.agenda := rfl

@[simp] theorem setCur_rf (v : RegFile) : (s.setCur v).rf = s.rf := rfl
@[simp] theorem setCur_cur (v : RegFile) : (s.setCur v).cur = v := rfl
@[simp] theorem setCur_prev (v : RegFile) : (s.setCur v).prev = s.prev := rfl
@[simp] theorem setCur_btn (v : RegFile) : (s.setCur v).btn = s.btn := rfl
@[simp] theorem setCur_pbtn (v : RegFile) : (s.setCur v).pbtn = s.pbtn := rfl
@[simp] theorem setCur_rc (v : RegFile) : (s.setCur v).rc = s.rc := rfl
@[simp] theorem setCur_bc (v : RegFile) : (s.setCur v).bc = s.bc := rfl
@[simp] theorem setCur_irq (v : RegFile) : (s.setCur v).irq = s.irq := rfl
@[simp] theorem setCur_w (v : RegFile) : (s.setCur v).w = s.w := rfl
@[simp] theorem setCur_sel (v : RegFile) : (s.setCur v).sel = s.sel := rfl
@[simp] theorem setCur_seq (v : RegFile) : (s.setCur v).seq = s.seq := rfl
@[simp] theorem setCur_hrdData (v : RegFile) : (s.setCur v).hrdData = s.hrdData := rfl
@[simp] theorem setCur_contacts (v : RegFile) : (s.setCur v).contacts = s.contacts := rfl
@[simp] theorem setCur_senseDraws (v : RegFile) : (s.setCur v).senseDraws = s.senseDraws := rfl
@[simp] theorem setCur_readDraws (v : RegFile) : (s.setCur v).readDraws = s.readDraws := rfl
@[simp] theorem setCur_agenda (v : RegFile) : (s.setCur v).agenda = s.agenda := rfl

@[simp] theorem setPrev_rf (v : RegFile) : (s.setPrev v).rf = s.rf := rfl
@[simp] theorem setPrev_cur (v : RegFile) : (s.setPrev v).cur = s.cur := rfl
@[simp] theorem setPrev_prev (v : RegFile) : (s.setPrev v).prev = v := rfl
@[simp] theorem setPrev_btn (v : RegFile) : (s.setPrev v).btn = s.btn := rfl
@[simp] theorem setPrev_pbtn (v : RegFile) : (s.setPrev v).pbtn = s.pbtn := rfl
@[simp] theorem setPrev_rc (v : RegFile) : (s.setPrev v).rc = s.rc := rfl
@[simp] theorem setPrev_bc (v : RegFile) : (s.setPrev v).bc = s.bc := rfl
@[simp] theorem setPrev_irq (v : RegFile) : (s.setPrev v).irq = s.irq := rfl
@[simp] theorem setPrev_w (v : RegFile) : (s.setPrev v).w = s.w := rfl
@[simp] theorem setPrev_sel (v : RegFile) : (s.setPrev v).sel = s.sel := rfl
@[simp] theorem setPrev_seq (v : RegFile) : (s.setPrev v).seq = s.seq := rfl
@[simp] theorem setPrev_hrdData (v : RegFile) : (s.setPrev v).hrdData = s.hrdData := rfl
@[simp] theorem setPrev_contacts (v : RegFile) : (s.setPrev v).contacts = s.contacts := rfl
@[simp] theorem setPrev_senseDraws (v : RegFile) : (s.setPrev v).senseDraws = s.senseDraws := rfl
@[simp] theorem setPrev_readDraws (v : RegFile) : (s.setPrev v).readDraws = s.readDraws := rfl
@[simp] theorem setPrev_agenda (v : RegFile) : (s.setPrev v).agenda = s.agenda := rfl

@[simp] theorem setBtn_rf (v : BankBytes) : (s.setBtn v).rf = s.rf := rfl
@[simp] theorem setBtn_cur (v : BankBytes) : (s.setBtn v).cur = s.cur := rfl
@[simp] theorem setBtn_prev (v : BankBytes) : (s.setBtn v).prev = s.prev := rfl
@[simp] theorem setBtn_btn (v : BankBytes) : (s.setBtn v).btn = v := rfl
@[simp] theorem setBtn_pbtn (v : BankBytes) : (s.setBtn v).pbtn = s.pbtn := rfl
@[simp] theorem setBtn_rc (v : BankBytes) : (s.setBtn v).rc = s.rc := rfl
@[simp] theorem setBtn_bc (v : BankBytes) : (s.setBtn v).bc = s.bc := rfl
@[simp] theorem setBtn_irq (v : BankBytes) : (s.setBtn v).irq = s.irq := rfl
@[simp] theorem setBtn_w (v : BankBytes) : (s.setBtn v).w = s.w := rfl
@[simp] theorem setBtn_sel (v : BankBytes) : (s.setBtn v).sel = s.sel := rfl
@[simp] theorem setBtn_seq (v : BankBytes) : (s.setBtn v).seq = s.seq := rfl
@[simp] theorem setBtn_hrdData (v : BankBytes) : (s.setBtn v).hrdData = s.hrdData := rfl
@[simp] theorem setBtn_contacts (v : BankBytes) : (s.setBtn v).contacts = s.contacts := rfl
@[simp] theorem setBtn_senseDraws (v : BankBytes) : (s.setBtn v).senseDraws = s.senseDraws := rfl
@[simp] theorem setBtn_readDraws (v : BankBytes) : (s.setBtn v).readDraws = s.readDraws := rfl
@[simp] theorem setBtn_agenda (v : BankBytes) : (s.setBtn v).agenda = s.agenda := rfl

@[simp] theorem setPbtn_rf (v : BankBytes) : (s.setPbtn v).rf = s.rf := rfl
@[simp] theorem setPbtn_cur (v : BankBytes) : (s.setPbtn v).cur = s.cur := rfl
@[simp] theorem setPbtn_prev (v : BankBytes) : (s.setPbtn v).prev = s.prev := rfl
@[simp] theorem setPbtn_btn (v : BankBytes) : (s.setPbtn v).btn = s.btn := rfl
@[simp] theorem setPbtn_pbtn (v : BankBytes) : (s.setPbtn v).pbtn = v := rfl
@[simp] theorem setPbtn_rc (v : BankBytes) : (s.setPbtn v).rc = s.rc := rfl
@[simp] theorem setPbtn_bc (v : BankBytes) : (s.setPbtn v).bc = s.bc := rfl
@[simp] theorem setPbtn_irq (v : BankBytes) : (s.setPbtn v).irq = s.irq := rfl
@[simp] theorem setPbtn_w (v : BankBytes) : (s.setPbtn v).w = s.w := rfl
@[simp] theorem setPbtn_sel (v : BankBytes) : (s.setPbtn v).sel = s.sel := rfl
@[simp] theorem setPbtn_seq (v : BankBytes) : (s.setPbtn v).seq = s.seq := rfl
@[simp] theorem setPbtn_hrdData (v : BankBytes) : (s.setPbtn v).hrdData = s.hrdData := rfl
@[simp] theorem setPbtn_contacts (v : BankBytes) : (s.setPbtn v).contacts = s.contacts := rfl
@[simp] theorem setPbtn_senseDraws (v : BankBytes) : (s.setPbtn v).senseDraws = s.senseDraws := rfl
@[simp] theorem setPbtn_readDraws (v : BankBytes) : (s.setPbtn v).readDraws = s.readDraws := rfl
@[simp] theorem setPbtn_agenda (v : BankBytes) : (s.setPbtn v).agenda = s.agenda := rfl

@[simp] theorem setRc_rf (v : Bool) : (s.setRc v).rf = s.rf := rfl
@[simp] theorem setRc_cur (v : Bool) : (s.setRc v).cur = s.cur := rfl
@[simp] theorem setRc_prev (v : Bool) : (s.setRc v).prev = s.prev := rfl
@[simp] theorem setRc_btn (v : Bool) : (s.setRc v).btn = s.btn := rfl
@[simp] theorem setRc_pbtn (v : Bool) : (s.setRc v).pbtn = s.pbtn := rfl
@[simp] theorem setRc_rc (v : Bool) : (s.setRc v).rc = v := rfl
@[simp] theorem setRc_bc (v : Bool) : (s.setRc v).bc = s.bc := rfl
@[simp] theorem setRc_irq (v : Bool) : (s.setRc v).irq = s.irq := rfl
@[simp] theorem setRc_w (v : Bool) : (s.setRc v).w = s.w := rfl
@[simp] theorem setRc_sel (v : Bool) : (s.setRc v).sel = s.sel := rfl
@[simp] theorem setRc_seq (v : Bool) : (s.setRc v).seq = s.seq := rfl
@[simp] theorem setRc_hrdData (v : Bool) : (s.setRc v).hrdData = s.hrdData := rfl
@[simp] theorem setRc_contacts (v : Bool) : (s.setRc v).contacts = s.contacts := rfl
@[simp] theorem setRc_senseDraws (v : Bool) : (s.setRc v).senseDraws = s.senseDraws := rfl
@[simp] theorem setRc_readDraws (v : Bool) : (s.setRc v).readDraws = s.readDraws := rfl
@[simp] theorem setRc_agenda (v : Bool) : (s.setRc v).agenda = s.agenda := rfl

@[simp] theorem setBc_rf (v : Bool) : (s.setBc v).rf = s.rf := rfl
@[simp] theorem setBc_cur (v : Bool) : (s.setBc v).cur = s.cur := rfl
@[simp] theorem setBc_prev (v : Bool) : (s.setBc v).prev = s.prev := rfl
@[simp] theorem setBc_btn (v : Bool) : (s.setBc v).btn = s.btn := rfl
@[simp] theorem setBc_pbtn (v : Bool) : (s.setBc v).pbtn = s.pbtn := rfl
@[simp] theorem setBc_rc (v : Bool) : (s.setBc v).rc = s.rc := rfl
@[simp] theorem setBc_bc (v : Bool) : (s.setBc v).bc = v := rfl
@[simp] theorem setBc_irq (v : Bool) : (s.setBc v).irq = s.irq := rfl
@[simp] theorem setBc_w (v : Bool) : (s.setBc v).w = s.w := rfl
@[simp] theorem setBc_sel (v : Bool) : (s.setBc v).sel = s.sel := rfl
@[simp] theorem setBc_seq (v : Bool) : (s.setBc v).seq = s.seq := rfl
@[simp] theorem setBc_hrdData (v : Bool) : (s.setBc v).hrdData = s.hrdData := rfl
@[simp] theorem setBc_contacts (v : Bool) : (s.setBc v).contacts = s.contacts := rfl
@[simp] theorem setBc_senseDraws (v : Bool) : (s.setBc v).senseDraws = s.senseDraws := rfl
@[simp] theorem setBc_readDraws (v : Bool) : (s.setBc v).readDraws = s.readDraws := rfl
@[simp] theorem setBc_agenda (v : Bool) : (s.setBc v).agenda = s.agenda := rfl

@[simp] theorem setIrq_rf (v : IrqLine) : (s.setIrq v).rf = s.rf := rfl
@[simp] theorem setIrq_cur (v : IrqLine) : (s.setIrq v).cur = s.cur := rfl
@[simp] theorem setIrq_prev (v : IrqLine) : (s.setIrq v).prev = s.prev := rfl
@[simp] theorem setIrq_btn (v : IrqLine) : (s.setIrq v).btn = s.btn := rfl
@[simp] theorem setIrq_pbtn (v : IrqLine) : (s.setIrq v).pbtn = s.pbtn := rfl
@[simp] theorem setIrq_rc (v : IrqLine) : (s.setIrq v).rc = s.rc := rfl
@[simp] theorem setIrq_bc (v : IrqLine) : (s.setIrq v).bc = s.bc := rfl
@[simp] theorem setIrq_irq (v : IrqLine) : (s.setIrq v).irq = v := rfl
@[simp] theorem setIrq_w (v : IrqLine) : (s.setIrq v).w = s.w := rfl
@[simp] theorem setIrq_sel (v : IrqLine) : (s.setIrq v).sel = s.sel := rfl
@[simp] theorem setIrq_seq (v : IrqLine) : (s.setIrq v).seq = s.seq := rfl
@[simp] theorem setIrq_hrdData (v : IrqLine) : (s.setIrq v).hrdData = s.hrdData := rfl
@[simp] theorem setIrq_contacts (v : IrqLine) : (s.setIrq v).contacts = s.contacts := rfl
@[simp] theorem setIrq_senseDraws (v : IrqLine) : (s.setIrq v).senseDraws = s.senseDraws := rfl
@[simp] theorem setIrq_readDraws (v : IrqLine) : (s.setIrq v).readDraws = s.readDraws := rfl
@[simp] theorem setIrq_agenda (v : IrqLine) : (s.setIrq v).agenda = s.agenda := rfl

@[simp] theorem setW_rf (v : WirePattern) : (s.setW v).rf = s.rf := rfl
@[simp] theorem setW_cur (v : WirePattern) : (s.setW v).cur = s.cur := rfl
@[simp] theorem setW_prev (v : WirePattern) : (s.setW v).prev = s.prev := rfl
@[simp] theorem setW_btn (v : WirePattern) : (s.setW v).btn = s.btn := rfl
@[simp] theorem setW_pbtn (v : WirePattern) : (s.setW v).pbtn = s.pbtn := rfl
@[simp] theorem setW_rc (v : WirePattern) : (s.setW v).rc = s.rc := rfl
@[simp] theorem setW_bc (v : WirePattern) : (s.setW v).bc = s.bc := rfl
@[simp] theorem setW_irq (v : WirePattern) : (s.setW v).irq = s.irq := rfl
@[simp] theorem setW_w (v : WirePattern) : (s.setW v).w = v := rfl
@[simp] theorem setW_sel (v : WirePattern) : (s.setW v).sel = s.sel := rfl
@[simp] theorem setW_seq (v : WirePattern) : (s.setW v).seq = s.seq := rfl
@[simp] theorem setW_hrdData (v : WirePattern) : (s.setW v).hrdData = s.hrdData := rfl
@[simp] theorem setW_contacts (v : WirePattern) : (s.setW v).contacts = s.contacts := rfl
@[simp] theorem setW_senseDraws (v : WirePattern) : (s.setW v).senseDraws = s.senseDraws := rfl
@[simp] theorem setW_readDraws (v : WirePattern) : (s.setW v).readDraws = s.readDraws := rfl
@[simp] theorem setW_agenda (v : WirePattern) : (s.setW v).agenda = s.agenda := rfl

@[simp] theorem setSel_rf (v : SelectLines) : (s.setSel v).rf = s.rf := rfl
@[simp] theorem setSel_cur (v : SelectLines) : (s.setSel v).cur = s.cur := rfl
@[simp] theorem setSel_prev (v : SelectLines) : (s.setSel v).prev = s.prev := rfl
@[simp] theorem setSel_btn (v : SelectLines) : (s.setSel v).btn = s.btn := rfl
@[simp] theorem setSel_pbtn (v : SelectLines) : (s.setSel v).pbtn = s.pbtn := rfl
@[simp] theorem setSel_rc (v : SelectLines) : (s.setSel v).rc = s.rc := rfl
@[simp] theorem setSel_bc (v : SelectLines) : (s.setSel v).bc = s.bc := rfl
@[simp] theorem setSel_irq (v : SelectLines) : (s.setSel v).irq = s.irq := rfl
@[simp] theorem setSel_w (v : SelectLines) : (s.setSel v).w = s.w := rfl
@[simp] theorem setSel_sel (v : SelectLines) : (s.setSel v).sel = v := rfl
@[simp] theorem setSel_seq (v : SelectLines) : (s.setSel v).seq = s.seq := rfl
@[simp] theorem setSel_hrdData (v : SelectLines) : (s.setSel v).hrdData = s.hrdData := rfl
@[simp] theorem setSel_contacts (v : SelectLines) : (s.setSel v).contacts = s.contacts := rfl
@[simp] theorem setSel_senseDraws (v : SelectLines) : (s.setSel v).senseDraws = s.senseDraws := rfl
@[simp] theorem setSel_readDraws (v : SelectLines) : (s.setSel v).readDraws = s.readDraws := rfl
@[simp] theorem setSel_agenda (v : SelectLines) : (s.setSel v).agenda = s.agenda := rfl

@[simp] theorem setSeq_rf (v : SeqPos) : (s.setSeq v).rf = s.rf := rfl
@[simp] theorem setSeq_cur (v : SeqPos) : (s.setSeq v).cur = s.cur := rfl
@[simp] theorem setSeq_prev (v : SeqPos) : (s.setSeq v).prev = s.prev := rfl
@[simp] theorem setSeq_btn (v : SeqPos) : (s.setSeq v).btn = s.btn := rfl
@[simp] theorem setSeq_pbtn (v : SeqPos) : (s.setSeq v).pbtn = s.pbtn := rfl
@[simp] theorem setSeq_rc (v : SeqPos) : (s.setSeq v).rc = s.rc := rfl
@[simp] theorem setSeq_bc (v : SeqPos) : (s.setSeq v).bc = s.bc := rfl
@[simp] theorem setSeq_irq (v : SeqPos) : (s.setSeq v).irq = s.irq := rfl
@[simp] theorem setSeq_w (v : SeqPos) : (s.setSeq v).w = s.w := rfl
@[simp] theorem setSeq_sel (v : SeqPos) : (s.setSeq v).sel = s.sel := rfl
@[simp] theorem setSeq_seq (v : SeqPos) : (s.setSeq v).seq = v := rfl
@[simp] theorem setSeq_hrdData (v : SeqPos) : (s.setSeq v).hrdData = s.hrdData := rfl
@[simp] theorem setSeq_contacts (v : SeqPos) : (s.setSeq v).contacts = s.contacts := rfl
@[simp] theorem setSeq_senseDraws (v : SeqPos) : (s.setSeq v).senseDraws = s.senseDraws := rfl
@[simp] theorem setSeq_readDraws (v : SeqPos) : (s.setSeq v).readDraws = s.readDraws := rfl
@[simp] theorem setSeq_agenda (v : SeqPos) : (s.setSeq v).agenda = s.agenda := rfl

@[simp] theorem setHrdData_rf (v : Byte) : (s.setHrdData v).rf = s.rf := rfl
@[simp] theorem setHrdData_cur (v : Byte) : (s.setHrdData v).cur = s.cur := rfl
@[simp] theorem setHrdData_prev (v : Byte) : (s.setHrdData v).prev = s.prev := rfl
@[simp] theorem setHrdData_btn (v : Byte) : (s.setHrdData v).btn = s.btn := rfl
@[simp] theorem setHrdData_pbtn (v : Byte) : (s.setHrdData v).pbtn = s.pbtn := rfl
@[simp] theorem setHrdData_rc (v : Byte) : (s.setHrdData v).rc = s.rc := rfl
@[simp] theorem setHrdData_bc (v : Byte) : (s.setHrdData v).bc = s.bc := rfl
@[simp] theorem setHrdData_irq (v : Byte) : (s.setHrdData v).irq = s.irq := rfl
@[simp] theorem setHrdData_w (v : Byte) : (s.setHrdData v).w = s.w := rfl
@[simp] theorem setHrdData_sel (v : Byte) : (s.setHrdData v).sel = s.sel := rfl
@[simp] theorem setHrdData_seq (v : Byte) : (s.setHrdData v).seq = s.seq := rfl
@[simp] theorem setHrdData_hrdData (v : Byte) : (s.setHrdData v).hrdData = v := rfl
@[simp] theorem setHrdData_contacts (v : Byte) : (s.setHrdData v).contacts = s.contacts := rfl
@[simp] theorem setHrdData_senseDraws (v : Byte) : (s.setHrdData v).senseDraws = s.senseDraws := rfl
@[simp] theorem setHrdData_readDraws (v : Byte) : (s.setHrdData v).readDraws = s.readDraws := rfl
@[simp] theorem setHrdData_agenda (v : Byte) : (s.setHrdData v).agenda = s.agenda := rfl

@[simp] theorem setContacts_rf (v : Vector (Option Contacts) 5) : (s.setContacts v).rf = s.rf := rfl
@[simp] theorem setContacts_cur (v : Vector (Option Contacts) 5) : (s.setContacts v).cur = s.cur := rfl
@[simp] theorem setContacts_prev (v : Vector (Option Contacts) 5) : (s.setContacts v).prev = s.prev := rfl
@[simp] theorem setContacts_btn (v : Vector (Option Contacts) 5) : (s.setContacts v).btn = s.btn := rfl
@[simp] theorem setContacts_pbtn (v : Vector (Option Contacts) 5) : (s.setContacts v).pbtn = s.pbtn := rfl
@[simp] theorem setContacts_rc (v : Vector (Option Contacts) 5) : (s.setContacts v).rc = s.rc := rfl
@[simp] theorem setContacts_bc (v : Vector (Option Contacts) 5) : (s.setContacts v).bc = s.bc := rfl
@[simp] theorem setContacts_irq (v : Vector (Option Contacts) 5) : (s.setContacts v).irq = s.irq := rfl
@[simp] theorem setContacts_w (v : Vector (Option Contacts) 5) : (s.setContacts v).w = s.w := rfl
@[simp] theorem setContacts_sel (v : Vector (Option Contacts) 5) : (s.setContacts v).sel = s.sel := rfl
@[simp] theorem setContacts_seq (v : Vector (Option Contacts) 5) : (s.setContacts v).seq = s.seq := rfl
@[simp] theorem setContacts_hrdData (v : Vector (Option Contacts) 5) : (s.setContacts v).hrdData = s.hrdData := rfl
@[simp] theorem setContacts_contacts (v : Vector (Option Contacts) 5) : (s.setContacts v).contacts = v := rfl
@[simp] theorem setContacts_senseDraws (v : Vector (Option Contacts) 5) : (s.setContacts v).senseDraws = s.senseDraws := rfl
@[simp] theorem setContacts_readDraws (v : Vector (Option Contacts) 5) : (s.setContacts v).readDraws = s.readDraws := rfl
@[simp] theorem setContacts_agenda (v : Vector (Option Contacts) 5) : (s.setContacts v).agenda = s.agenda := rfl

@[simp] theorem setSenseDraws_rf (v : Nat) : (s.setSenseDraws v).rf = s.rf := rfl
@[simp] theorem setSenseDraws_cur (v : Nat) : (s.setSenseDraws v).cur = s.cur := rfl
@[simp] theorem setSenseDraws_prev (v : Nat) : (s.setSenseDraws v).prev = s.prev := rfl
@[simp] theorem setSenseDraws_btn (v : Nat) : (s.setSenseDraws v).btn = s.btn := rfl
@[simp] theorem setSenseDraws_pbtn (v : Nat) : (s.setSenseDraws v).pbtn = s.pbtn := rfl
@[simp] theorem setSenseDraws_rc (v : Nat) : (s.setSenseDraws v).rc = s.rc := rfl
@[simp] theorem setSenseDraws_bc (v : Nat) : (s.setSenseDraws v).bc = s.bc := rfl
@[simp] theorem setSenseDraws_irq (v : Nat) : (s.setSenseDraws v).irq = s.irq := rfl
@[simp] theorem setSenseDraws_w (v : Nat) : (s.setSenseDraws v).w = s.w := rfl
@[simp] theorem setSenseDraws_sel (v : Nat) : (s.setSenseDraws v).sel = s.sel := rfl
@[simp] theorem setSenseDraws_seq (v : Nat) : (s.setSenseDraws v).seq = s.seq := rfl
@[simp] theorem setSenseDraws_hrdData (v : Nat) : (s.setSenseDraws v).hrdData = s.hrdData := rfl
@[simp] theorem setSenseDraws_contacts (v : Nat) : (s.setSenseDraws v).contacts = s.contacts := rfl
@[simp] theorem setSenseDraws_senseDraws (v : Nat) : (s.setSenseDraws v).senseDraws = v := rfl
@[simp] theorem setSenseDraws_readDraws (v : Nat) : (s.setSenseDraws v).readDraws = s.readDraws := rfl
@[simp] theorem setSenseDraws_agenda (v : Nat) : (s.setSenseDraws v).agenda = s.agenda := rfl

@[simp] theorem setReadDraws_rf (v : Nat) : (s.setReadDraws v).rf = s.rf := rfl
@[simp] theorem setReadDraws_cur (v : Nat) : (s.setReadDraws v).cur = s.cur := rfl
@[simp] theorem setReadDraws_prev (v : Nat) : (s.setReadDraws v).prev = s.prev := rfl
@[simp] theorem setReadDraws_btn (v : Nat) : (s.setReadDraws v).btn = s.btn := rfl
@[simp] theorem setReadDraws_pbtn (v : Nat) : (s.setReadDraws v).pbtn = s.pbtn := rfl
@[simp] theorem setReadDraws_rc (v : Nat) : (s.setReadDraws v).rc = s.rc := rfl
@[simp] theorem setReadDraws_bc (v : Nat) : (s.setReadDraws v).bc = s.bc := rfl
@[simp] theorem setReadDraws_irq (v : Nat) : (s.setReadDraws v).irq = s.irq := rfl
@[simp] theorem setReadDraws_w (v : Nat) : (s.setReadDraws v).w = s.w := rfl
@[simp] theorem setReadDraws_sel (v : Nat) : (s.setReadDraws v).sel = s.sel := rfl
@[simp] theorem setReadDraws_seq (v : Nat) : (s.setReadDraws v).seq = s.seq := rfl
@[simp] theorem setReadDraws_hrdData (v : Nat) : (s.setReadDraws v).hrdData = s.hrdData := rfl
@[simp] theorem setReadDraws_contacts (v : Nat) : (s.setReadDraws v).contacts = s.contacts := rfl
@[simp] theorem setReadDraws_senseDraws (v : Nat) : (s.setReadDraws v).senseDraws = s.senseDraws := rfl
@[simp] theorem setReadDraws_readDraws (v : Nat) : (s.setReadDraws v).readDraws = v := rfl
@[simp] theorem setReadDraws_agenda (v : Nat) : (s.setReadDraws v).agenda = s.agenda := rfl

@[simp] theorem setAgenda_rf (v : List Stimulus) : (s.setAgenda v).rf = s.rf := rfl
@[simp] theorem setAgenda_cur (v : List Stimulus) : (s.setAgenda v).cur = s.cur := rfl
@[simp] theorem setAgenda_prev (v : List Stimulus) : (s.setAgenda v).prev = s.prev := rfl
@[simp] theorem setAgenda_btn (v : List Stimulus) : (s.setAgenda v).btn = s.btn := rfl
@[simp] theorem setAgenda_pbtn (v : List Stimulus) : (s.setAgenda v).pbtn = s.pbtn := rfl
@[simp] theorem setAgenda_rc (v : List Stimulus) : (s.setAgenda v).rc = s.rc := rfl
@[simp] theorem setAgenda_bc (v : List Stimulus) : (s.setAgenda v).bc = s.bc := rfl
@[simp] theorem setAgenda_irq (v : List Stimulus) : (s.setAgenda v).irq = s.irq := rfl
@[simp] theorem setAgenda_w (v : List Stimulus) : (s.setAgenda v).w = s.w := rfl
@[simp] theorem setAgenda_sel (v : List Stimulus) : (s.setAgenda v).sel = s.sel := rfl
@[simp] theorem setAgenda_seq (v : List Stimulus) : (s.setAgenda v).seq = s.seq := rfl
@[simp] theorem setAgenda_hrdData (v : List Stimulus) : (s.setAgenda v).hrdData = s.hrdData := rfl
@[simp] theorem setAgenda_contacts (v : List Stimulus) : (s.setAgenda v).contacts = s.contacts := rfl
@[simp] theorem setAgenda_senseDraws (v : List Stimulus) : (s.setAgenda v).senseDraws = s.senseDraws := rfl
@[simp] theorem setAgenda_readDraws (v : List Stimulus) : (s.setAgenda v).readDraws = s.readDraws := rfl
@[simp] theorem setAgenda_agenda (v : List Stimulus) : (s.setAgenda v).agenda = v := rfl

@[simp] theorem consume_rf : s.consume.rf = s.rf := rfl
@[simp] theorem consume_cur : s.consume.cur = s.cur := rfl
@[simp] theorem consume_prev : s.consume.prev = s.prev := rfl
@[simp] theorem consume_btn : s.consume.btn = s.btn := rfl
@[simp] theorem consume_pbtn : s.consume.pbtn = s.pbtn := rfl
@[simp] theorem consume_rc : s.consume.rc = s.rc := rfl
@[simp] theorem consume_bc : s.consume.bc = s.bc := rfl
@[simp] theorem consume_irq : s.consume.irq = s.irq := rfl
@[simp] theorem consume_w : s.consume.w = s.w := rfl
@[simp] theorem consume_sel : s.consume.sel = s.sel := rfl
@[simp] theorem consume_seq : s.consume.seq = s.seq := rfl
@[simp] theorem consume_hrdData : s.consume.hrdData = s.hrdData := rfl
@[simp] theorem consume_contacts : s.consume.contacts = s.contacts := rfl
@[simp] theorem consume_senseDraws : s.consume.senseDraws = s.senseDraws := rfl
@[simp] theorem consume_readDraws : s.consume.readDraws = s.readDraws := rfl
@[simp] theorem consume_agenda : s.consume.agenda = s.agenda.tail := rfl

@[simp] theorem senseDrawn_rf : s.senseDrawn.rf = s.rf := rfl
@[simp] theorem senseDrawn_cur : s.senseDrawn.cur = s.cur := rfl
@[simp] theorem senseDrawn_prev : s.senseDrawn.prev = s.prev := rfl
@[simp] theorem senseDrawn_btn : s.senseDrawn.btn = s.btn := rfl
@[simp] theorem senseDrawn_pbtn : s.senseDrawn.pbtn = s.pbtn := rfl
@[simp] theorem senseDrawn_rc : s.senseDrawn.rc = s.rc := rfl
@[simp] theorem senseDrawn_bc : s.senseDrawn.bc = s.bc := rfl
@[simp] theorem senseDrawn_irq : s.senseDrawn.irq = s.irq := rfl
@[simp] theorem senseDrawn_w : s.senseDrawn.w = s.w := rfl
@[simp] theorem senseDrawn_sel : s.senseDrawn.sel = s.sel := rfl
@[simp] theorem senseDrawn_seq : s.senseDrawn.seq = s.seq := rfl
@[simp] theorem senseDrawn_hrdData : s.senseDrawn.hrdData = s.hrdData := rfl
@[simp] theorem senseDrawn_contacts : s.senseDrawn.contacts = s.contacts := rfl
@[simp] theorem senseDrawn_senseDraws : s.senseDrawn.senseDraws = s.senseDraws + 1 := rfl
@[simp] theorem senseDrawn_readDraws : s.senseDrawn.readDraws = s.readDraws := rfl
@[simp] theorem senseDrawn_agenda : s.senseDrawn.agenda = s.agenda := rfl

@[simp] theorem readDrawn_rf : s.readDrawn.rf = s.rf := rfl
@[simp] theorem readDrawn_cur : s.readDrawn.cur = s.cur := rfl
@[simp] theorem readDrawn_prev : s.readDrawn.prev = s.prev := rfl
@[simp] theorem readDrawn_btn : s.readDrawn.btn = s.btn := rfl
@[simp] theorem readDrawn_pbtn : s.readDrawn.pbtn = s.pbtn := rfl
@[simp] theorem readDrawn_rc : s.readDrawn.rc = s.rc := rfl
@[simp] theorem readDrawn_bc : s.readDrawn.bc = s.bc := rfl
@[simp] theorem readDrawn_irq : s.readDrawn.irq = s.irq := rfl
@[simp] theorem readDrawn_w : s.readDrawn.w = s.w := rfl
@[simp] theorem readDrawn_sel : s.readDrawn.sel = s.sel := rfl
@[simp] theorem readDrawn_seq : s.readDrawn.seq = s.seq := rfl
@[simp] theorem readDrawn_hrdData : s.readDrawn.hrdData = s.hrdData := rfl
@[simp] theorem readDrawn_contacts : s.readDrawn.contacts = s.contacts := rfl
@[simp] theorem readDrawn_senseDraws : s.readDrawn.senseDraws = s.senseDraws := rfl
@[simp] theorem readDrawn_readDraws : s.readDrawn.readDraws = s.readDraws + 1 := rfl
@[simp] theorem readDrawn_agenda : s.readDrawn.agenda = s.agenda := rfl

@[simp] theorem noteWriteCompleted_rf : s.noteWriteCompleted.rf = s.rf := rfl
@[simp] theorem noteWriteCompleted_cur : s.noteWriteCompleted.cur = s.cur := rfl
@[simp] theorem noteWriteCompleted_prev : s.noteWriteCompleted.prev = s.prev := rfl
@[simp] theorem noteWriteCompleted_btn : s.noteWriteCompleted.btn = s.btn := rfl
@[simp] theorem noteWriteCompleted_pbtn : s.noteWriteCompleted.pbtn = s.pbtn := rfl
@[simp] theorem noteWriteCompleted_rc : s.noteWriteCompleted.rc = true := rfl
@[simp] theorem noteWriteCompleted_bc : s.noteWriteCompleted.bc = s.bc := rfl
@[simp] theorem noteWriteCompleted_irq : s.noteWriteCompleted.irq = s.irq := rfl
@[simp] theorem noteWriteCompleted_w : s.noteWriteCompleted.w = s.w := rfl
@[simp] theorem noteWriteCompleted_sel : s.noteWriteCompleted.sel = s.sel := rfl
@[simp] theorem noteWriteCompleted_seq : s.noteWriteCompleted.seq = s.seq := rfl
@[simp] theorem noteWriteCompleted_hrdData : s.noteWriteCompleted.hrdData = s.hrdData := rfl
@[simp] theorem noteWriteCompleted_contacts : s.noteWriteCompleted.contacts = s.contacts := rfl
@[simp] theorem noteWriteCompleted_senseDraws : s.noteWriteCompleted.senseDraws = s.senseDraws := rfl
@[simp] theorem noteWriteCompleted_readDraws : s.noteWriteCompleted.readDraws = s.readDraws := rfl
@[simp] theorem noteWriteCompleted_agenda : s.noteWriteCompleted.agenda = s.agenda := rfl

@[simp] theorem clearChanged_rf : s.clearChanged.rf = s.rf := rfl
@[simp] theorem clearChanged_cur : s.clearChanged.cur = s.cur := rfl
@[simp] theorem clearChanged_prev : s.clearChanged.prev = s.prev := rfl
@[simp] theorem clearChanged_btn : s.clearChanged.btn = s.btn := rfl
@[simp] theorem clearChanged_pbtn : s.clearChanged.pbtn = s.pbtn := rfl
@[simp] theorem clearChanged_rc : s.clearChanged.rc = false := rfl
@[simp] theorem clearChanged_bc : s.clearChanged.bc = s.bc := rfl
@[simp] theorem clearChanged_irq : s.clearChanged.irq = s.irq := rfl
@[simp] theorem clearChanged_w : s.clearChanged.w = s.w := rfl
@[simp] theorem clearChanged_sel : s.clearChanged.sel = s.sel := rfl
@[simp] theorem clearChanged_seq : s.clearChanged.seq = s.seq := rfl
@[simp] theorem clearChanged_hrdData : s.clearChanged.hrdData = s.hrdData := rfl
@[simp] theorem clearChanged_contacts : s.clearChanged.contacts = s.contacts := rfl
@[simp] theorem clearChanged_senseDraws : s.clearChanged.senseDraws = s.senseDraws := rfl
@[simp] theorem clearChanged_readDraws : s.clearChanged.readDraws = s.readDraws := rfl
@[simp] theorem clearChanged_agenda : s.clearChanged.agenda = s.agenda := rfl

@[simp] theorem clearConsumed_rf : s.clearConsumed.rf = s.rf := rfl
@[simp] theorem clearConsumed_cur : s.clearConsumed.cur = s.cur := rfl
@[simp] theorem clearConsumed_prev : s.clearConsumed.prev = s.prev := rfl
@[simp] theorem clearConsumed_btn : s.clearConsumed.btn = s.btn := rfl
@[simp] theorem clearConsumed_pbtn : s.clearConsumed.pbtn = s.pbtn := rfl
@[simp] theorem clearConsumed_rc : s.clearConsumed.rc = s.rc := rfl
@[simp] theorem clearConsumed_bc : s.clearConsumed.bc = false := rfl
@[simp] theorem clearConsumed_irq : s.clearConsumed.irq = s.irq := rfl
@[simp] theorem clearConsumed_w : s.clearConsumed.w = s.w := rfl
@[simp] theorem clearConsumed_sel : s.clearConsumed.sel = s.sel := rfl
@[simp] theorem clearConsumed_seq : s.clearConsumed.seq = s.seq := rfl
@[simp] theorem clearConsumed_hrdData : s.clearConsumed.hrdData = s.hrdData := rfl
@[simp] theorem clearConsumed_contacts : s.clearConsumed.contacts = s.contacts := rfl
@[simp] theorem clearConsumed_senseDraws : s.clearConsumed.senseDraws = s.senseDraws := rfl
@[simp] theorem clearConsumed_readDraws : s.clearConsumed.readDraws = s.readDraws := rfl
@[simp] theorem clearConsumed_agenda : s.clearConsumed.agenda = s.agenda := rfl

@[simp] theorem assertIrq_rf : s.assertIrq.rf = s.rf := rfl
@[simp] theorem assertIrq_cur : s.assertIrq.cur = s.cur := rfl
@[simp] theorem assertIrq_prev : s.assertIrq.prev = s.prev := rfl
@[simp] theorem assertIrq_btn : s.assertIrq.btn = s.btn := rfl
@[simp] theorem assertIrq_pbtn : s.assertIrq.pbtn = s.pbtn := rfl
@[simp] theorem assertIrq_rc : s.assertIrq.rc = s.rc := rfl
@[simp] theorem assertIrq_bc : s.assertIrq.bc = s.bc := rfl
@[simp] theorem assertIrq_irq : s.assertIrq.irq = .asserted := rfl
@[simp] theorem assertIrq_w : s.assertIrq.w = s.w := rfl
@[simp] theorem assertIrq_sel : s.assertIrq.sel = s.sel := rfl
@[simp] theorem assertIrq_seq : s.assertIrq.seq = s.seq := rfl
@[simp] theorem assertIrq_hrdData : s.assertIrq.hrdData = s.hrdData := rfl
@[simp] theorem assertIrq_contacts : s.assertIrq.contacts = s.contacts := rfl
@[simp] theorem assertIrq_senseDraws : s.assertIrq.senseDraws = s.senseDraws := rfl
@[simp] theorem assertIrq_readDraws : s.assertIrq.readDraws = s.readDraws := rfl
@[simp] theorem assertIrq_agenda : s.assertIrq.agenda = s.agenda := rfl

@[simp] theorem releaseIrq_rf : s.releaseIrq.rf = s.rf := rfl
@[simp] theorem releaseIrq_cur : s.releaseIrq.cur = s.cur := rfl
@[simp] theorem releaseIrq_prev : s.releaseIrq.prev = s.prev := rfl
@[simp] theorem releaseIrq_btn : s.releaseIrq.btn = s.btn := rfl
@[simp] theorem releaseIrq_pbtn : s.releaseIrq.pbtn = s.pbtn := rfl
@[simp] theorem releaseIrq_rc : s.releaseIrq.rc = s.rc := rfl
@[simp] theorem releaseIrq_bc : s.releaseIrq.bc = s.bc := rfl
@[simp] theorem releaseIrq_irq : s.releaseIrq.irq = .deasserted := rfl
@[simp] theorem releaseIrq_w : s.releaseIrq.w = s.w := rfl
@[simp] theorem releaseIrq_sel : s.releaseIrq.sel = s.sel := rfl
@[simp] theorem releaseIrq_seq : s.releaseIrq.seq = s.seq := rfl
@[simp] theorem releaseIrq_hrdData : s.releaseIrq.hrdData = s.hrdData := rfl
@[simp] theorem releaseIrq_contacts : s.releaseIrq.contacts = s.contacts := rfl
@[simp] theorem releaseIrq_senseDraws : s.releaseIrq.senseDraws = s.senseDraws := rfl
@[simp] theorem releaseIrq_readDraws : s.releaseIrq.readDraws = s.readDraws := rfl
@[simp] theorem releaseIrq_agenda : s.releaseIrq.agenda = s.agenda := rfl

@[simp] theorem storeRf_rf (o : Offset) (v : Byte) : (s.storeRf o v).rf = s.rf.write o v := rfl
@[simp] theorem storeRf_cur (o : Offset) (v : Byte) : (s.storeRf o v).cur = s.cur := rfl
@[simp] theorem storeRf_prev (o : Offset) (v : Byte) : (s.storeRf o v).prev = s.prev := rfl
@[simp] theorem storeRf_btn (o : Offset) (v : Byte) : (s.storeRf o v).btn = s.btn := rfl
@[simp] theorem storeRf_pbtn (o : Offset) (v : Byte) : (s.storeRf o v).pbtn = s.pbtn := rfl
@[simp] theorem storeRf_rc (o : Offset) (v : Byte) : (s.storeRf o v).rc = s.rc := rfl
@[simp] theorem storeRf_bc (o : Offset) (v : Byte) : (s.storeRf o v).bc = s.bc := rfl
@[simp] theorem storeRf_irq (o : Offset) (v : Byte) : (s.storeRf o v).irq = s.irq := rfl
@[simp] theorem storeRf_w (o : Offset) (v : Byte) : (s.storeRf o v).w = s.w := rfl
@[simp] theorem storeRf_sel (o : Offset) (v : Byte) : (s.storeRf o v).sel = s.sel := rfl
@[simp] theorem storeRf_seq (o : Offset) (v : Byte) : (s.storeRf o v).seq = s.seq := rfl
@[simp] theorem storeRf_hrdData (o : Offset) (v : Byte) : (s.storeRf o v).hrdData = s.hrdData := rfl
@[simp] theorem storeRf_contacts (o : Offset) (v : Byte) : (s.storeRf o v).contacts = s.contacts := rfl
@[simp] theorem storeRf_senseDraws (o : Offset) (v : Byte) : (s.storeRf o v).senseDraws = s.senseDraws := rfl
@[simp] theorem storeRf_readDraws (o : Offset) (v : Byte) : (s.storeRf o v).readDraws = s.readDraws := rfl
@[simp] theorem storeRf_agenda (o : Offset) (v : Byte) : (s.storeRf o v).agenda = s.agenda := rfl

@[simp] theorem setBank_rf (k : Fin 5) (v : Byte) : (s.setBank k v).rf = s.rf := rfl
@[simp] theorem setBank_cur (k : Fin 5) (v : Byte) : (s.setBank k v).cur = s.cur := rfl
@[simp] theorem setBank_prev (k : Fin 5) (v : Byte) : (s.setBank k v).prev = s.prev := rfl
@[simp] theorem setBank_btn (k : Fin 5) (v : Byte) : (s.setBank k v).btn = s.btn.set k v := rfl
@[simp] theorem setBank_pbtn (k : Fin 5) (v : Byte) : (s.setBank k v).pbtn = s.pbtn := rfl
@[simp] theorem setBank_rc (k : Fin 5) (v : Byte) : (s.setBank k v).rc = s.rc := rfl
@[simp] theorem setBank_bc (k : Fin 5) (v : Byte) : (s.setBank k v).bc = s.bc := rfl
@[simp] theorem setBank_irq (k : Fin 5) (v : Byte) : (s.setBank k v).irq = s.irq := rfl
@[simp] theorem setBank_w (k : Fin 5) (v : Byte) : (s.setBank k v).w = s.w := rfl
@[simp] theorem setBank_sel (k : Fin 5) (v : Byte) : (s.setBank k v).sel = s.sel := rfl
@[simp] theorem setBank_seq (k : Fin 5) (v : Byte) : (s.setBank k v).seq = s.seq := rfl
@[simp] theorem setBank_hrdData (k : Fin 5) (v : Byte) : (s.setBank k v).hrdData = s.hrdData := rfl
@[simp] theorem setBank_contacts (k : Fin 5) (v : Byte) : (s.setBank k v).contacts = s.contacts := rfl
@[simp] theorem setBank_senseDraws (k : Fin 5) (v : Byte) : (s.setBank k v).senseDraws = s.senseDraws := rfl
@[simp] theorem setBank_readDraws (k : Fin 5) (v : Byte) : (s.setBank k v).readDraws = s.readDraws := rfl
@[simp] theorem setBank_agenda (k : Fin 5) (v : Byte) : (s.setBank k v).agenda = s.agenda := rfl

@[simp] theorem setLine_rf (k : Fin 5) (x : SelectState) : (s.setLine k x).rf = s.rf := rfl
@[simp] theorem setLine_cur (k : Fin 5) (x : SelectState) : (s.setLine k x).cur = s.cur := rfl
@[simp] theorem setLine_prev (k : Fin 5) (x : SelectState) : (s.setLine k x).prev = s.prev := rfl
@[simp] theorem setLine_btn (k : Fin 5) (x : SelectState) : (s.setLine k x).btn = s.btn := rfl
@[simp] theorem setLine_pbtn (k : Fin 5) (x : SelectState) : (s.setLine k x).pbtn = s.pbtn := rfl
@[simp] theorem setLine_rc (k : Fin 5) (x : SelectState) : (s.setLine k x).rc = s.rc := rfl
@[simp] theorem setLine_bc (k : Fin 5) (x : SelectState) : (s.setLine k x).bc = s.bc := rfl
@[simp] theorem setLine_irq (k : Fin 5) (x : SelectState) : (s.setLine k x).irq = s.irq := rfl
@[simp] theorem setLine_w (k : Fin 5) (x : SelectState) : (s.setLine k x).w = s.w := rfl
@[simp] theorem setLine_sel (k : Fin 5) (x : SelectState) : (s.setLine k x).sel = s.sel.set k x := rfl
@[simp] theorem setLine_seq (k : Fin 5) (x : SelectState) : (s.setLine k x).seq = s.seq := rfl
@[simp] theorem setLine_hrdData (k : Fin 5) (x : SelectState) : (s.setLine k x).hrdData = s.hrdData := rfl
@[simp] theorem setLine_contacts (k : Fin 5) (x : SelectState) : (s.setLine k x).contacts = s.contacts := rfl
@[simp] theorem setLine_senseDraws (k : Fin 5) (x : SelectState) : (s.setLine k x).senseDraws = s.senseDraws := rfl
@[simp] theorem setLine_readDraws (k : Fin 5) (x : SelectState) : (s.setLine k x).readDraws = s.readDraws := rfl
@[simp] theorem setLine_agenda (k : Fin 5) (x : SelectState) : (s.setLine k x).agenda = s.agenda := rfl

@[simp] theorem noteRegisterRead_rf (o : Offset) : (s.noteRegisterRead o).rf = s.rf := rfl
@[simp] theorem noteRegisterRead_cur (o : Offset) : (s.noteRegisterRead o).cur = s.cur := rfl
@[simp] theorem noteRegisterRead_prev (o : Offset) : (s.noteRegisterRead o).prev = s.prev := rfl
@[simp] theorem noteRegisterRead_btn (o : Offset) : (s.noteRegisterRead o).btn = s.btn := rfl
@[simp] theorem noteRegisterRead_pbtn (o : Offset) : (s.noteRegisterRead o).pbtn = s.pbtn := rfl
@[simp] theorem noteRegisterRead_rc (o : Offset) : (s.noteRegisterRead o).rc = s.rc := rfl
@[simp] theorem noteRegisterRead_bc (o : Offset) : (s.noteRegisterRead o).bc = (s.bc || isBankOffset o) := rfl
@[simp] theorem noteRegisterRead_irq (o : Offset) : (s.noteRegisterRead o).irq = s.irq := rfl
@[simp] theorem noteRegisterRead_w (o : Offset) : (s.noteRegisterRead o).w = s.w := rfl
@[simp] theorem noteRegisterRead_sel (o : Offset) : (s.noteRegisterRead o).sel = s.sel := rfl
@[simp] theorem noteRegisterRead_seq (o : Offset) : (s.noteRegisterRead o).seq = s.seq := rfl
@[simp] theorem noteRegisterRead_hrdData (o : Offset) : (s.noteRegisterRead o).hrdData = s.hrdData := rfl
@[simp] theorem noteRegisterRead_contacts (o : Offset) : (s.noteRegisterRead o).contacts = s.contacts := rfl
@[simp] theorem noteRegisterRead_senseDraws (o : Offset) : (s.noteRegisterRead o).senseDraws = s.senseDraws := rfl
@[simp] theorem noteRegisterRead_readDraws (o : Offset) : (s.noteRegisterRead o).readDraws = s.readDraws := rfl
@[simp] theorem noteRegisterRead_agenda (o : Offset) : (s.noteRegisterRead o).agenda = s.agenda := rfl

@[simp] theorem panelChange_rf (k : Fin 5) (c : Option Contacts) : (s.panelChange k c).rf = s.rf := rfl
@[simp] theorem panelChange_cur (k : Fin 5) (c : Option Contacts) : (s.panelChange k c).cur = s.cur := rfl
@[simp] theorem panelChange_prev (k : Fin 5) (c : Option Contacts) : (s.panelChange k c).prev = s.prev := rfl
@[simp] theorem panelChange_btn (k : Fin 5) (c : Option Contacts) : (s.panelChange k c).btn = s.btn := rfl
@[simp] theorem panelChange_pbtn (k : Fin 5) (c : Option Contacts) : (s.panelChange k c).pbtn = s.pbtn := rfl
@[simp] theorem panelChange_rc (k : Fin 5) (c : Option Contacts) : (s.panelChange k c).rc = s.rc := rfl
@[simp] theorem panelChange_bc (k : Fin 5) (c : Option Contacts) : (s.panelChange k c).bc = s.bc := rfl
@[simp] theorem panelChange_irq (k : Fin 5) (c : Option Contacts) : (s.panelChange k c).irq = s.irq := rfl
@[simp] theorem panelChange_w (k : Fin 5) (c : Option Contacts) : (s.panelChange k c).w = s.w := rfl
@[simp] theorem panelChange_sel (k : Fin 5) (c : Option Contacts) : (s.panelChange k c).sel = s.sel := rfl
@[simp] theorem panelChange_seq (k : Fin 5) (c : Option Contacts) : (s.panelChange k c).seq = s.seq := rfl
@[simp] theorem panelChange_hrdData (k : Fin 5) (c : Option Contacts) : (s.panelChange k c).hrdData = s.hrdData := rfl
@[simp] theorem panelChange_contacts (k : Fin 5) (c : Option Contacts) : (s.panelChange k c).contacts = s.contacts.set k c := rfl
@[simp] theorem panelChange_senseDraws (k : Fin 5) (c : Option Contacts) : (s.panelChange k c).senseDraws = s.senseDraws := rfl
@[simp] theorem panelChange_readDraws (k : Fin 5) (c : Option Contacts) : (s.panelChange k c).readDraws = s.readDraws := rfl
@[simp] theorem panelChange_agenda (k : Fin 5) (c : Option Contacts) : (s.panelChange k c).agenda = s.agenda := rfl

@[simp] theorem resetBlock_rf : s.resetBlock.rf = State.reset.rf := rfl
@[simp] theorem resetBlock_cur : s.resetBlock.cur = State.reset.cur := rfl
@[simp] theorem resetBlock_prev : s.resetBlock.prev = State.reset.prev := rfl
@[simp] theorem resetBlock_btn : s.resetBlock.btn = State.reset.btn := rfl
@[simp] theorem resetBlock_pbtn : s.resetBlock.pbtn = State.reset.pbtn := rfl
@[simp] theorem resetBlock_rc : s.resetBlock.rc = State.reset.rc := rfl
@[simp] theorem resetBlock_bc : s.resetBlock.bc = State.reset.bc := rfl
@[simp] theorem resetBlock_irq : s.resetBlock.irq = State.reset.irq := rfl
@[simp] theorem resetBlock_w : s.resetBlock.w = State.reset.w := rfl
@[simp] theorem resetBlock_sel : s.resetBlock.sel = State.reset.sel := rfl
@[simp] theorem resetBlock_seq : s.resetBlock.seq = State.reset.seq := rfl
@[simp] theorem resetBlock_hrdData : s.resetBlock.hrdData = State.reset.hrdData := rfl
@[simp] theorem resetBlock_contacts : s.resetBlock.contacts = s.contacts := rfl
@[simp] theorem resetBlock_senseDraws : s.resetBlock.senseDraws = s.senseDraws := rfl
@[simp] theorem resetBlock_readDraws : s.resetBlock.readDraws = s.readDraws := rfl
@[simp] theorem resetBlock_agenda : s.resetBlock.agenda = s.agenda := rfl

end Sys2Proof.Machine.State
end

