-- ==== Sys2Proof/Laws/Meanings.lean ====
section
/-! SUPPORT. The arms of the indexed micro-operations as one meaning of their index, and what each shared operation
does to the state, said once. -/

namespace Sys2Proof.Machine

theorem exec_lon (i : Fin 20) (s : State) : exec (lon i) s = lampOn i s := by fin_cases i <;> rfl

theorem exec_loff (i : Fin 20) (s : State) : exec (loff i) s = lampOff i s := by fin_cases i <;> rfl

theorem exec_sela (k : Fin 5) (s : State) : exec (sela k) s = selectBank k s := by fin_cases k <;> rfl

theorem exec_samp (k : Fin 5) (s : State) : exec (samp k) s = sampleBank k s := by fin_cases k <;> rfl

theorem exec_seli (k : Fin 5) (s : State) : exec (seli k) s = deselectBank k s := by fin_cases k <;> rfl

theorem exec_bwr (k : Fin 5) (s : State) : exec (bwr k) s = writeBank k s := by fin_cases k <;> rfl

/-- Reading the sense lines changes at most the number of sense draws. -/
theorem afterSense_eq (s : State) : ∃ d, s.afterSense = { s with senseDraws := d } := by
  unfold State.afterSense
  split
  · exact ⟨s.senseDraws, rfl⟩
  · exact ⟨s.senseDraws + 1, rfl⟩

/-- The bank selected is the one whose line is the only `Active` one. -/
theorem selectedBank_of_only (sel : SelectLines) (k : Fin 5) (h : ∀ j : Fin 5, sel[j] = .active ↔ j = k) :
    selectedBank sel = some k := by
  have one : ∀ k : Fin 5, (List.finRange 5).filter (fun j => j == k) = [k] := by decide
  have only : (List.finRange 5).filter (fun j => sel[j] == .active) = [k] := by
    rw [← one k]
    apply List.filter_congr
    intro j _
    rw [Bool.eq_iff_iff, beq_iff_eq, beq_iff_eq]
    exact h j
  unfold selectedBank
  rw [only]

/-- With fixed contacts and its bank the only one selected, a sample reads them and draws nothing. -/
theorem fixedLevels_of_only (s : State) (k : Fin 5) (closed : Contacts) (h : ∀ j : Fin 5, s.sel[j] = .active ↔ j = k)
    (hc : s.contacts[k] = some closed) : s.fixedLevels = some (~~~ closed) := by
  simp only [State.fixedLevels, selectedBank_of_only s.sel k h, hc, Option.map_some]

/-- A change is seen exactly when the two snapshots differ. -/
theorem snapshotChanged_iff (s : State) : s.snapshotChanged = true ↔ s.btn ≠ s.pbtn := by
  simp only [State.snapshotChanged, decide_eq_true_eq]
  constructor
  · rintro ⟨k, hk⟩ e
    exact hk (by rw [e])
  · intro ne
    by_contra none
    push Not at none
    exact ne (Vector.ext fun i hi => none ⟨i, hi⟩)

/-- A host read answers a next state that differs from the old one in the byte returned, the flag and the read draws. -/
theorem execHrd_cases (off : Offset) (b : Byte) (s : State) :
    ∃ v d, execHrd off b s = .next { s with hrdData := v, readDraws := d, bc := s.bc || isBankOffset off } ∧
      (off.toNat < 255 → s.rf.read off = some v ∧ d = s.readDraws) := by
  unfold execHrd
  split
  · rename_i v hv
    exact ⟨v, s.readDraws, rfl, fun _ => ⟨hv, rfl⟩⟩
  · rename_i hv
    refine ⟨_, s.readDraws + 1, rfl, fun h => ?_⟩
    simp [RegFile.read, h] at hv

end Sys2Proof.Machine
end

