-- ==== Sys2Proof/Laws/Step.lean ====
section
/-! SUPPORT. What one step can do, said once: a step of the Loop agent by its seventeen kinds of micro-operation, a step
of the Host agent by its three events, the two steps that run no operation. -/

namespace Sys2Proof.Machine

theorem step_of_panel (s : State) (k : Fin 5) (c : Option Contacts) (h : s.pending = .panel k c) :
    step s = .next (s.consume.panelChange k c) := by
  simp only [step, h]

theorem step_of_rst (s : State) (h : s.pending = .rst) : step s = .next s.consume.resetBlock := by
  simp only [step, h]

theorem step_of_loop (s : State) (i : Instr) (h : s.pending = .loop)
    (d : decodePosition (BitVec.ofNat 8 s.seq.val) = .ok i) : step s = exec i s.consume := by
  simp only [step, h, runFetched, State.fetch, decode, d]

theorem step_of_host (s : State) (w : EventWord) (i : Instr) (h : s.pending = .host w) (d : decodeEvent w = .ok i) :
    step s = exec i s.consume := by
  simp only [step, h, runFetched, State.fetch, decode_eventBytes, d]

theorem step_of_no_event (s : State) (w : EventWord) (why : Reject) (h : s.pending = .host w)
    (d : decodeEvent w = .error why) : step s = .refused (.undecodable why) := by
  simp only [step, h, runFetched, State.fetch, decode_eventBytes, d]

/-- A Loop step is the micro-operation at the position of the sequencer (R15, R101). -/
theorem step_loop_cases (s : State) (h : s.pending = .loop) :
    (s.seq.val = 0 ∧ step s = execRfsh s.consume) ∨ (s.seq.val = 1 ∧ step s = execRfcl s.consume) ∨
    (s.seq.val = 2 ∧ step s = execAck s.consume) ∨ (s.seq.val = 3 ∧ step s = execAckcl s.consume) ∨
    (∃ i : Fin 20, s.seq.val = 4 + 2 * i.val ∧ step s = lampOn i s.consume) ∨
    (∃ i : Fin 20, s.seq.val = 5 + 2 * i.val ∧ step s = lampOff i s.consume) ∨
    (s.seq.val = 44 ∧ step s = execLend s.consume) ∨ (s.seq.val = 45 ∧ step s = execVer0 s.consume) ∨
    (s.seq.val = 46 ∧ step s = execVer1 s.consume) ∨
    (∃ k : Fin 5, s.seq.val = 47 + 3 * k.val ∧ step s = selectBank k s.consume) ∨
    (∃ k : Fin 5, s.seq.val = 48 + 3 * k.val ∧ step s = sampleBank k s.consume) ∨
    (∃ k : Fin 5, s.seq.val = 49 + 3 * k.val ∧ step s = deselectBank k s.consume) ∨
    (s.seq.val = 62 ∧ step s = execBcmp s.consume) ∨
    (∃ k : Fin 5, s.seq.val = 63 + k.val ∧ step s = writeBank k s.consume) ∨
    (s.seq.val = 68 ∧ step s = execIrqa s.consume) ∨ (s.seq.val = 69 ∧ step s = execPbup s.consume) ∨
    (s.seq.val = 70 ∧ step s = execShdw s.consume) := by
  rcases decodePosition_cases s.seq with ⟨p, d⟩ | ⟨p, d⟩ | ⟨p, d⟩ | ⟨p, d⟩ | ⟨i, p, d⟩ | ⟨i, p, d⟩ | ⟨p, d⟩ | ⟨p, d⟩ |
    ⟨p, d⟩ | ⟨k, p, d⟩ | ⟨k, p, d⟩ | ⟨k, p, d⟩ | ⟨p, d⟩ | ⟨k, p, d⟩ | ⟨p, d⟩ | ⟨p, d⟩ | ⟨p, d⟩ <;>
    have run := step_of_loop s _ h d <;>
    try simp only [exec_lon, exec_loff, exec_sela, exec_samp, exec_seli, exec_bwr] at run
  · exact .inl ⟨p, run⟩
  · exact .inr (.inl ⟨p, run⟩)
  · exact .inr (.inr (.inl ⟨p, run⟩))
  · exact .inr (.inr (.inr (.inl ⟨p, run⟩)))
  · exact .inr (.inr (.inr (.inr (.inl ⟨i, p, run⟩))))
  · exact .inr (.inr (.inr (.inr (.inr (.inl ⟨i, p, run⟩)))))
  · exact .inr (.inr (.inr (.inr (.inr (.inr (.inl ⟨p, run⟩))))))
  · exact .inr (.inr (.inr (.inr (.inr (.inr (.inr (.inl ⟨p, run⟩)))))))
  · exact .inr (.inr (.inr (.inr (.inr (.inr (.inr (.inr (.inl ⟨p, run⟩))))))))
  · exact .inr (.inr (.inr (.inr (.inr (.inr (.inr (.inr (.inr (.inl ⟨k, p, run⟩)))))))))
  · exact .inr (.inr (.inr (.inr (.inr (.inr (.inr (.inr (.inr (.inr (.inl ⟨k, p, run⟩))))))))))
  · exact .inr (.inr (.inr (.inr (.inr (.inr (.inr (.inr (.inr (.inr (.inr (.inl ⟨k, p, run⟩)))))))))))
  · exact .inr (.inr (.inr (.inr (.inr (.inr (.inr (.inr (.inr (.inr (.inr (.inr (.inl ⟨p, run⟩))))))))))))
  · exact .inr (.inr (.inr (.inr (.inr (.inr (.inr (.inr (.inr (.inr (.inr (.inr (.inr (.inl ⟨k, p, run⟩)))))))))))))
  · exact .inr (.inr (.inr (.inr (.inr (.inr (.inr (.inr (.inr (.inr (.inr (.inr (.inr (.inr
      (.inl ⟨p, run⟩))))))))))))))
  · exact .inr (.inr (.inr (.inr (.inr (.inr (.inr (.inr (.inr (.inr (.inr (.inr (.inr (.inr (.inr
      (.inl ⟨p, run⟩)))))))))))))))
  · exact .inr (.inr (.inr (.inr (.inr (.inr (.inr (.inr (.inr (.inr (.inr (.inr (.inr (.inr (.inr (.inr
      ⟨p, run⟩)))))))))))))))

/-- A Host step is one of the three events, or the refusal of a word that is no event (R96, R210 to R212). -/
theorem step_host_cases (s : State) (w : EventWord) (h : s.pending = .host w) :
    (∃ off val, w = eventWord 0 off val ∧ step s = execHwb off val s.consume) ∨
    (∃ off len, w = eventWord 1 off len ∧ step s = execHwc off len s.consume) ∨
    (∃ off b, w = eventWord 2 off b ∧ step s = execHrd off b s.consume) ∨
    (∃ a b, w = eventWord 3 a b ∧ step s = .refused (.undecodable .notAnEvent)) := by
  rcases decodeEvent_cases w with ⟨a, b, e, d⟩ | ⟨a, b, e, d⟩ | ⟨a, b, e, d⟩ | ⟨a, b, e, d⟩
  · exact .inl ⟨a, b, e, step_of_host s w _ h d⟩
  · exact .inr (.inl ⟨a, b, e, step_of_host s w _ h d⟩)
  · exact .inr (.inr (.inl ⟨a, b, e, step_of_host s w _ h d⟩))
  · exact .inr (.inr (.inr ⟨a, b, e, step_of_no_event s w _ h d⟩))

end Sys2Proof.Machine
end

