-- ==== Sys2Proof/Laws/Infinite.lean ====
section
/-! SUPPORT. Infinite runs (R17): one exists from every state for every sequence of choices whose words are events, every
finite prefix of one is a run of `runSteps`, what a step keeps an infinite run keeps, and in a fair one the sequencer is
back at `RFSH` again and again (R191, R195). -/

namespace Sys2Proof.Machine

/-- A choice that can happen: everything but a word of kind `11`, which is never delivered (R102). -/
def Stimulus.deliverable (x : Stimulus) : Prop := ∀ word : EventWord, x = .host word → word.extractLsb' 16 2 ≠ 3

@[simp] theorem pending_choose (s : State) (x : Stimulus) : (s.choose x).pending = x := rfl

@[simp] theorem consume_choose (s : State) (x : Stimulus) : (s.choose x).consume = s.setAgenda [] := rfl

@[simp] theorem choose_seq (s : State) (x : Stimulus) : (s.choose x).seq = s.seq := rfl

/-- No operation reads the agenda, or writes it. -/
theorem exec_setAgenda (i : Instr) (s t : State) (l : List Stimulus) (h : exec i s = .next t) :
    exec i (s.setAgenda l) = .next (t.setAgenda l) := by
  have lampOn_same : ∀ k, lampOn k s = .next t → lampOn k (s.setAgenda l) = .next (t.setAgenda l) := by
    intro k h
    unfold lampOn at h ⊢
    split at h <;> rename_i c <;> cases h
    · exact if_pos c
    · exact if_neg c
  have sample_same : ∀ k, sampleBank k s = .next t → sampleBank k (s.setAgenda l) = .next (t.setAgenda l) := by
    intro k h
    have levels : (s.setAgenda l).senseLevels = s.senseLevels := rfl
    have after : (s.setAgenda l).afterSense = s.afterSense.setAgenda l := by
      unfold State.afterSense
      show (match s.fixedLevels with | some _ => _ | none => _) = _
      cases s.fixedLevels <;> rfl
    cases h
    unfold sampleBank
    rw [after, levels]
    rfl
  cases i
  case rfsh =>
    simp only [exec, execRfsh] at h ⊢
    split at h <;> rename_i c <;> cases h
    · exact if_pos c
    · exact if_neg c
  case ack =>
    simp only [exec, execAck] at h ⊢
    split at h <;> rename_i c <;> cases h
    · exact if_pos c
    · exact if_neg c
  case bcmp =>
    simp only [exec, execBcmp] at h ⊢
    split at h <;> rename_i c <;> cases h
    · exact if_pos c
    · exact if_neg c
  case hrd off b =>
    simp only [exec, execHrd, State.setAgenda_rf] at h ⊢
    split at h <;> cases h <;> rfl
  all_goals first
    | exact lampOn_same _ h
    | exact sample_same _ h
    | (cases h; rfl)

/-- A step depends on the agenda through its head alone, and leaves the rest of it. -/
theorem step_setAgenda (s t : State) (x : Stimulus) (l : List Stimulus) (h : step (s.choose x) = .next t) :
    step (s.setAgenda (x :: l)) = .next (t.setAgenda l) := by
  have run : runFetched (s.choose x) = .next t → runFetched (s.setAgenda (x :: l)) = .next (t.setAgenda l) := by
    intro h
    have fetched : (s.setAgenda (x :: l)).fetch = (s.choose x).fetch := rfl
    unfold runFetched at h ⊢
    rw [fetched]
    split at h
    · exact exec_setAgenda _ (s.choose x).consume t l h
    · cases h
  cases x with
  | loop => exact run h
  | host word => exact run h
  | panel k c => cases h; rfl
  | rst => cases h; rfl

/-- The step leaves nothing of a single choice in the agenda. -/
theorem agenda_of_step_choose (s t : State) (x : Stimulus) (h : step (s.choose x) = .next t) : t.setAgenda [] = t := by
  have same := step_setAgenda s t x [] h
  rw [show s.setAgenda [x] = s.choose x from rfl, h] at same
  injection same with same
  exact same.symm

/-- Whatever can happen completes. -/
theorem step_choose_completes (s : State) (x : Stimulus) (h : x.deliverable) : ∃ t, step (s.choose x) = .next t := by
  cases x with
  | loop =>
    rcases step_loop_cases (s.choose .loop) rfl with ⟨_, d⟩ | ⟨_, d⟩ | ⟨_, d⟩ | ⟨_, d⟩ | ⟨i, _, d⟩ | ⟨i, _, d⟩ | ⟨_, d⟩ |
      ⟨_, d⟩ | ⟨_, d⟩ | ⟨k, _, d⟩ | ⟨k, _, d⟩ | ⟨k, _, d⟩ | ⟨_, d⟩ | ⟨k, _, d⟩ | ⟨_, d⟩ | ⟨_, d⟩ | ⟨_, d⟩ <;> rw [d]
    case inl => unfold execRfsh; split <;> exact ⟨_, rfl⟩
    case inr.inr.inl => unfold execAck; split <;> exact ⟨_, rfl⟩
    case inr.inr.inr.inr.inl => unfold lampOn; split <;> exact ⟨_, rfl⟩
    case inr.inr.inr.inr.inr.inr.inr.inr.inr.inr.inr.inr.inl => unfold execBcmp; split <;> exact ⟨_, rfl⟩
    all_goals exact ⟨_, rfl⟩
  | panel k c => exact ⟨_, rfl⟩
  | rst => exact ⟨_, rfl⟩
  | host word =>
    rcases step_host_cases (s.choose (.host word)) word rfl with ⟨a, b, _, d⟩ | ⟨a, b, _, d⟩ | ⟨a, b, _, d⟩ | ⟨a, b, e, _⟩
    · exact ⟨_, d⟩
    · exact ⟨_, d⟩
    · obtain ⟨v, n, run, _⟩ := execHrd_cases a b (s.choose (.host word)).consume
      exact ⟨_, d.trans run⟩
    · exact absurd (by rw [e]; exact kind_eventWord 3 a b) (h word rfl)

/-- From every state there is an infinite run for every sequence of choices that can happen. -/
theorem infiniteRun_exists (s : State) (choices : Nat → Stimulus) (h : ∀ n, (choices n).deliverable) :
    ∃ states, states 0 = s ∧ InfiniteRun choices states := by
  let next (x : Stimulus) (s : State) : State :=
    match step (s.choose x) with
    | .next t => t
    | .fault _ | .refused _ => s
  refine ⟨fun n => Nat.rec s (fun n t => next (choices n) t) n, rfl, fun n => ?_⟩
  obtain ⟨t, ht⟩ := step_choose_completes (Nat.rec s (fun n t => next (choices n) t) n) (choices n) (h n)
  show _ = Host.Outcome.next (next (choices n) _)
  simp only [next, ht]

/-- Every finite prefix of an infinite run is a run of the state whose agenda is that prefix of the choices: what is
proved of `runSteps` and any agenda is proved of infinite runs. -/
theorem prefix_of_infiniteRun (choices : Nat → Stimulus) (states : Nat → State) (h : InfiniteRun choices states) (n : Nat) :
    runSteps n ((states 0).setAgenda ((List.range n).map choices)) = .next ((states n).setAgenda []) := by
  induction n generalizing choices states with
  | zero => rfl
  | succ n ih =>
    have first := step_setAgenda _ _ _ ((List.range n).map fun m => choices (m + 1)) (h 0)
    rw [List.range_succ_eq_map, List.map_cons, List.map_map]
    show (match step _ with | .next t => runSteps n t | .fault r => .fault r | .refused r => .refused r) = _
    rw [show (choices ∘ Nat.succ) = fun m => choices (m + 1) from rfl, first]
    exact ih (fun m => choices (m + 1)) (fun m => states (m + 1)) fun m => h (m + 1)

/-- What every step keeps, and no change of the agenda touches, an infinite run keeps. -/
theorem infiniteRun_keeps (P : State → Prop) (choices : Nat → Stimulus) (states : Nat → State)
    (run : InfiniteRun choices states) (start : P (states 0)) (agenda : ∀ s l, P s → P (s.setAgenda l))
    (kept : ∀ s t, P s → step s = .next t → P t) (n : Nat) : P (states n) := by
  induction n with
  | zero => exact start
  | succ n ih => exact kept _ _ (agenda _ _ ih) (run n)

/-- A Loop step moves the sequencer on, or back to 0 (R193). -/
theorem seq_of_loop_step (s t : State) (p : s.pending = .loop) (h : step s = .next t) :
    t.seq.val = 0 ∨ s.seq.val < t.seq.val := by
  rcases step_loop_cases s p with ⟨q, d⟩ | ⟨q, d⟩ | ⟨q, d⟩ | ⟨q, d⟩ | ⟨i, q, d⟩ | ⟨i, q, d⟩ | ⟨q, d⟩ | ⟨q, d⟩ | ⟨q, d⟩ |
    ⟨k, q, d⟩ | ⟨k, q, d⟩ | ⟨k, q, d⟩ | ⟨q, d⟩ | ⟨k, q, d⟩ | ⟨q, d⟩ | ⟨q, d⟩ | ⟨q, d⟩ <;> rw [h] at d <;>
    first | unfold execRfsh at d | unfold execAck at d | unfold execBcmp at d | unfold lampOn at d | skip
  all_goals try split at d
  all_goals cases d
  all_goals simp only [State.setSeq_seq]
  all_goals first
    | exact .inl rfl
    | (right; show s.seq.val < _; omega)

/-- No other step moves the sequencer, but for the reset event, which puts it at 0 (R237, R260). -/
theorem seq_of_other_step (s t : State) (p : s.pending ≠ .loop) (h : step s = .next t) :
    t.seq.val = 0 ∨ t.seq = s.seq := by
  cases e : s.pending with
  | loop => exact absurd e p
  | panel k c => rw [step_of_panel s k c e] at h; cases h; exact .inr rfl
  | rst => rw [step_of_rst s e] at h; cases h; exact .inl rfl
  | host word =>
    rcases step_host_cases s word e with ⟨a, b, _, d⟩ | ⟨a, b, _, d⟩ | ⟨a, b, _, d⟩ | ⟨a, b, _, d⟩ <;> rw [h] at d
    · cases d; exact .inr rfl
    · cases d; exact .inr rfl
    · obtain ⟨v, n, run, _⟩ := execHrd_cases a b s.consume
      rw [run] at d
      cases d
      exact .inr rfl
    · cases d

/-- In a fair infinite run the cycle never stops: from every instant on the sequencer comes to 0 (R191, R195, R290). -/
theorem cycle_recurs (choices : Nat → Stimulus) (states : Nat → State) (run : InfiniteRun choices states)
    (fair : Fair choices) (n : Nat) : ∃ m, n ≤ m ∧ (states m).seq.val = 0 := by
  have onward : ∀ n m, n ≤ m →
      (∃ j, n ≤ j ∧ (states j).seq.val = 0) ∨ (states n).seq.val ≤ (states m).seq.val := by
    intro n m le
    induction m, le using Nat.le_induction with
    | base => exact .inr le_rfl
    | succ m le ih =>
      rcases ih with found | far
      · exact .inl found
      by_cases p : choices m = .loop
      · rcases seq_of_loop_step _ _ (by rw [pending_choose, p]) (run m) with zero | on
        · exact .inl ⟨m + 1, by omega, zero⟩
        · exact .inr (by rw [choose_seq] at on; omega)
      · rcases seq_of_other_step _ _ (by rw [pending_choose]; exact p) (run m) with zero | same
        · exact .inl ⟨m + 1, by omega, zero⟩
        · exact .inr (by rw [same, choose_seq]; exact far)
  have climb : ∀ k n, 71 ≤ (states n).seq.val + k → ∃ m, n ≤ m ∧ (states m).seq.val = 0 := by
    intro k
    induction k with
    | zero => intro n h; exact absurd (states n).seq.isLt (by omega)
    | succ k ih =>
      intro n h
      obtain ⟨m, le, p⟩ := fair n
      rcases onward n m le with found | far
      · exact found
      rcases seq_of_loop_step _ _ (by rw [pending_choose, p]) (run m) with zero | on
      · exact ⟨m + 1, by omega, zero⟩
      · rw [choose_seq] at on
        obtain ⟨j, le', zero⟩ := ih (m + 1) (by omega)
        exact ⟨j, by omega, zero⟩
  exact climb 71 n (by omega)

end Sys2Proof.Machine
end

