-- ==== Sys2Proof/Laws/Lamps.lean ====
section
/-! SUPPORT. The lamp table by its (low wire, high wire) pairs, the total map from identity to pattern, and the bits of the
five-wire words. -/

namespace Sys2Proof

/-- Bit `p` of five bits is the one of wire or line `p`. -/
theorem fiveBits_getLsbD (f : Fin 5 → Bool) (p : Fin 5) : (fiveBits f).getLsbD p.val = f p := by
  have bits : ∀ a b c d e : Bool, ∀ p : Fin 5, (BitVec.ofBool e ++ BitVec.ofBool d ++ BitVec.ofBool c ++
      BitVec.ofBool b ++ BitVec.ofBool a).getLsbD p.val = #v[a, b, c, d, e][p] := by decide
  unfold fiveBits
  rw [bits]
  fin_cases p <;> rfl

theorem WireState.oe_eq (x : WireState) : x.oe = (x != .float) := by cases x <;> rfl

theorem WireState.level_eq (x : WireState) : x.level = (x == .driveHigh) := by cases x <;> rfl

/-- What a pair pattern holds at its two wires, and how many wires are in each state. -/
theorem pairPattern_facts : ∀ low high : Fin 5, low ≠ high →
    (pairPattern low high).count .driveLow = 1 ∧ (pairPattern low high).count .driveHigh = 1 ∧
    (pairPattern low high).count .float = 3 ∧ (pairPattern low high)[low] = .driveLow ∧
    (pairPattern low high)[high] = .driveHigh := by decide

/-- A pair pattern names its pair. -/
theorem pairPattern_inj : ∀ a b c d : Fin 5, a ≠ b → c ≠ d → pairPattern a b = pairPattern c d → a = c ∧ b = d := by
  decide

theorem openPairs_inj : ∀ i j : Fin 18, openPairs[i] = openPairs[j] → i = j := by decide

/-- The open pairs are pairs of different wires and not the two that the source gives. -/
theorem openPairs_facts : ∀ i : Fin 18,
    openPairs[i].1 ≠ openPairs[i].2 ∧ openPairs[i] ≠ (2, 4) ∧ openPairs[i] ≠ (0, 2) := by decide

/-- Every pair of different wires is open or one of the two of the source. -/
theorem openPairs_all : ∀ a b : Fin 5, a ≠ b →
    (a, b) = (2, 4) ∨ (a, b) = (0, 2) ∨ ∃ i : Fin 18, openPairs[i] = (a, b) := by decide

/-- The two wires of an entry differ, whatever the order of the open entries. -/
theorem lampPair_ne (order : Equiv.Perm (Fin 18)) (i : Fin 20) : (lampPair order i).1 ≠ (lampPair order i).2 := by
  unfold lampPair
  split
  · decide
  · split
    · decide
    · exact (openPairs_facts _).1

/-- Inside 1 to 20 the pattern is the table's (R144). -/
theorem pattern_of_bit (i : Fin 20) : pattern (i.val + 1) = lampPattern i := by
  unfold pattern
  rw [dif_pos (by omega)]
  congr 1
  apply Fin.ext
  simp

/-- Outside 1 to 20 all wires float (R144). -/
theorem pattern_outside (id : Int) (h : id < 1 ∨ 20 < id) : pattern id = allFloat := by
  unfold pattern
  rw [dif_neg (by omega)]

end Sys2Proof
end

