-- ==== Sys2Proof/Laws/PerInstr.lean ====
section
/-! SUPPORT. The families of LAWS.json: what is said of every instruction as syntax, one lemma per constructor. -/

namespace Sys2Proof.Laws.RoundTrip

/-- Decoding the encoding of an operation gives it back (R96, R101). -/
def Statement (i : Instr) : Prop := decode (encode i) = .ok i

theorem hwb (off : Offset) (val : Byte) : Statement (.hwb off val) := by
  simp only [Statement, encode, decode_eventBytes, decodeEvent_eventWord, if_true]

theorem hwc (off : Offset) (len : Byte) : Statement (.hwc off len) := by
  simp only [Statement, encode, decode_eventBytes, decodeEvent_eventWord]
  rfl

theorem hrd (off : Offset) (unused : Byte) : Statement (.hrd off unused) := by
  simp only [Statement, encode, decode_eventBytes, decodeEvent_eventWord]
  rfl

theorem rfsh : Statement .rfsh := rfl
theorem rfcl : Statement .rfcl := rfl
theorem ack : Statement .ack := rfl
theorem ackcl : Statement .ackcl := rfl
theorem lon0 : Statement .lon0 := rfl
theorem loff0 : Statement .loff0 := rfl
theorem lon1 : Statement .lon1 := rfl
theorem loff1 : Statement .loff1 := rfl
theorem lon2 : Statement .lon2 := rfl
theorem loff2 : Statement .loff2 := rfl
theorem lon3 : Statement .lon3 := rfl
theorem loff3 : Statement .loff3 := rfl
theorem lon4 : Statement .lon4 := rfl
theorem loff4 : Statement .loff4 := rfl
theorem lon5 : Statement .lon5 := rfl
theorem loff5 : Statement .loff5 := rfl
theorem lon6 : Statement .lon6 := rfl
theorem loff6 : Statement .loff6 := rfl
theorem lon7 : Statement .lon7 := rfl
theorem loff7 : Statement .loff7 := rfl
theorem lon8 : Statement .lon8 := rfl
theorem loff8 : Statement .loff8 := rfl
theorem lon9 : Statement .lon9 := rfl
theorem loff9 : Statement .loff9 := rfl
theorem lon10 : Statement .lon10 := rfl
theorem loff10 : Statement .loff10 := rfl
theorem lon11 : Statement .lon11 := rfl
theorem loff11 : Statement .loff11 := rfl
theorem lon12 : Statement .lon12 := rfl
theorem loff12 : Statement .loff12 := rfl
theorem lon13 : Statement .lon13 := rfl
theorem loff13 : Statement .loff13 := rfl
theorem lon14 : Statement .lon14 := rfl
theorem loff14 : Statement .loff14 := rfl
theorem lon15 : Statement .lon15 := rfl
theorem loff15 : Statement .loff15 := rfl
theorem lon16 : Statement .lon16 := rfl
theorem loff16 : Statement .loff16 := rfl
theorem lon17 : Statement .lon17 := rfl
theorem loff17 : Statement .loff17 := rfl
theorem lon18 : Statement .lon18 := rfl
theorem loff18 : Statement .loff18 := rfl
theorem lon19 : Statement .lon19 := rfl
theorem loff19 : Statement .loff19 := rfl
theorem lend : Statement .lend := rfl
theorem ver0 : Statement .ver0 := rfl
theorem ver1 : Statement .ver1 := rfl
theorem sela0 : Statement .sela0 := rfl
theorem samp0 : Statement .samp0 := rfl
theorem seli0 : Statement .seli0 := rfl
theorem sela1 : Statement .sela1 := rfl
theorem samp1 : Statement .samp1 := rfl
theorem seli1 : Statement .seli1 := rfl
theorem sela2 : Statement .sela2 := rfl
theorem samp2 : Statement .samp2 := rfl
theorem seli2 : Statement .seli2 := rfl
theorem sela3 : Statement .sela3 := rfl
theorem samp3 : Statement .samp3 := rfl
theorem seli3 : Statement .seli3 := rfl
theorem sela4 : Statement .sela4 := rfl
theorem samp4 : Statement .samp4 := rfl
theorem seli4 : Statement .seli4 := rfl
theorem bcmp : Statement .bcmp := rfl
theorem bwr0 : Statement .bwr0 := rfl
theorem bwr1 : Statement .bwr1 := rfl
theorem bwr2 : Statement .bwr2 := rfl
theorem bwr3 : Statement .bwr3 := rfl
theorem bwr4 : Statement .bwr4 := rfl
theorem irqa : Statement .irqa := rfl
theorem pbup : Statement .pbup := rfl
theorem shdw : Statement .shdw := rfl

end Sys2Proof.Laws.RoundTrip
end

