-- ==== Sys2Proof/Laws/RegFile.lean ====
section
/-! SUPPORT. Reading and writing one byte of a register file, and the list form of a file (log entry 17). -/

namespace Sys2Proof

/-- The shapes of the state are the sizes the spec fixes (R7). -/
theorem shapes_are_the_sizes :
    RegFile = Vector Byte Config.rfSize ∧ WirePattern = Vector WireState Config.nWires ∧
    SelectLines = Vector SelectState Config.nBanks ∧ BankBytes = Vector Byte Config.nBanks ∧
    SenseLevels = BitVec Config.nSense ∧ lampPattern = fun i : Fin Config.nLamps => lampTable Config.lampOrder i :=
  ⟨rfl, rfl, rfl, rfl, rfl, rfl⟩

/-- The offset of bank `k` as a number. -/
theorem bankOffset_toNat (k : Fin 5) : (bankOffset k).toNat = Config.btnBase + k.val := by
  revert k; decide

end Sys2Proof

namespace Sys2Proof.RegFile

/-- An offset inside the file holds its byte. -/
theorem read_of_lt (m : RegFile) (off : Offset) (h : off.toNat < 255) : m.read off = some m[off.toNat] := by
  simp [read, h]

/-- Offset 255 holds no byte (R70). -/
theorem read_outside (m : RegFile) (off : Offset) (h : ¬ off.toNat < 255) : m.read off = none := by
  simp only [read, Vector.getElem?_eq_none_iff]
  omega

/-- A byte written inside the file is read back. -/
theorem read_write_same (m : RegFile) (off : Offset) (v : Byte) (h : off.toNat < 255) :
    (m.write off v).read off = some v := by
  simp [read, write, h]

/-- A write leaves every other offset alone. -/
theorem read_write_other (m : RegFile) (off a : Offset) (v : Byte) (h : a ≠ off) :
    (m.write off v).read a = m.read a := by
  have ne : off.toNat ≠ a.toNat := fun e => h (BitVec.eq_of_toNat_eq e.symm)
  unfold read write
  split
  · rw [Vector.getElem?_set_ne _ ne]
  · rfl

/-- A write outside the file changes nothing (R70). -/
theorem write_outside (m : RegFile) (off : Offset) (v : Byte) (h : ¬ off.toNat < 255) : m.write off v = m := by
  simp [write, h]

/-- One byte of a written file, by its index. -/
theorem write_getElem (m : RegFile) (off : Offset) (v : Byte) (a : Nat) (h : a < 255) :
    (m.write off v)[a] = if off.toNat = a then v else m[a] := by
  unfold write
  split
  · rw [Vector.getElem_set]
  · rw [if_neg (by omega)]

/-- Two files that read alike at every offset are the same file. -/
theorem ext_read (m n : RegFile) (h : ∀ a : Offset, m.read a = n.read a) : m = n := by
  apply Vector.ext
  intro i hi
  have e : (BitVec.ofNat 8 i).toNat = i := by simp; omega
  have := h (BitVec.ofNat 8 i)
  rw [read_of_lt _ _ (by omega), read_of_lt _ _ (by omega)] at this
  simpa [e] using this

/-- The offsets of a file's list form are 0 to 254, rising. -/
theorem cells_offsets (m : RegFile) : m.cells.map Prod.fst = List.range 255 := by
  have h : m.cells.map Prod.fst = (List.finRange 255).map Fin.val := by
    simp [cells, Function.comp_def]
  rw [h, List.map_coe_finRange_eq_range]

/-- Equal list forms are equal files. -/
theorem cells_injective (m n : RegFile) (h : m.cells = n.cells) : m = n := by
  apply Vector.ext
  intro i hi
  have := (List.map_inj_left.mp h) ⟨i, hi⟩ (List.mem_finRange _)
  simpa using this

end Sys2Proof.RegFile
end

