-- ==== Sys2Proof/Laws/Runs.lean ====
section
/-! SUPPORT. Runs of several steps, and what the wires hold at a position of the sequencer. -/

namespace Sys2Proof.Machine

/-- `n` steps are the host's `n` steps of the core. -/
theorem runSteps_eq_run (n : Nat) (s : State) : runSteps n s = core.run n s := by
  induction n generalizing s with
  | zero => rfl
  | succ n ih =>
    cases h : step s with
    | next t =>
      simp only [runSteps, Host.Core.run, h, show core.step s = .next t from h]
      exact ih t
    | fault r => simp only [runSteps, Host.Core.run, h, show core.step s = .fault r from h]; rfl
    | refused r => simp only [runSteps, Host.Core.run, h, show core.step s = .refused r from h]; rfl

/-- One step more at the front. -/
theorem runSteps_succ (n : Nat) (s t : State) (h : step s = .next t) : runSteps (n + 1) s = runSteps n t := by
  simp only [runSteps, h]

/-- A run that goes on after `m` steps. -/
theorem runSteps_add (m n : Nat) (s t : State) (h : runSteps m s = .next t) : runSteps (m + n) s = runSteps n t := by
  induction m generalizing s with
  | zero => cases h; rw [Nat.zero_add]
  | succ m ih =>
    rw [Nat.succ_add_eq_add_succ, Nat.add_succ]
    simp only [runSteps] at h ⊢
    split at h
    · exact ih _ h
    · cases h
    · cases h

/-- Between `LON(i)` and `LOFF(i)` lamp `i` is held. -/
theorem heldLamp_of_odd (i : Fin 20) (p : SeqPos) (h : p.val = 5 + 2 * i.val) : heldLamp p = some i := by
  unfold heldLamp
  rw [dif_pos (by omega)]
  congr 1
  apply Fin.ext
  show (p.val - 5) / 2 = i.val
  omega

/-- At every other position none is. -/
theorem heldLamp_of_dark (p : SeqPos) (h : p.val < 5 ∨ 43 < p.val ∨ p.val % 2 = 0) : heldLamp p = none := by
  unfold heldLamp
  rw [dif_neg (by omega)]

theorem heldPattern_of_odd (i : Fin 20) (p : SeqPos) (h : p.val = 5 + 2 * i.val) : heldPattern p = lampPattern i := by
  unfold heldPattern
  rw [heldLamp_of_odd i p h]

theorem heldPattern_of_dark (p : SeqPos) (h : p.val < 5 ∨ 43 < p.val ∨ p.val % 2 = 0) : heldPattern p = allFloat := by
  unfold heldPattern
  rw [heldLamp_of_dark p h]

/-- Whether a change is seen depends on the two snapshots of the switches alone. -/
theorem snapshotChanged_congr (s t : State) (hb : s.btn = t.btn) (hp : s.pbtn = t.pbtn) :
    s.snapshotChanged = t.snapshotChanged := by
  unfold State.snapshotChanged
  rw [hb, hp]

end Sys2Proof.Machine
end

