-- ==== Sys2Proof/Tests/Slice0.lean ====
section
/-! SUPPORT. Tests: one ill-formed term for each well-formedness check, words written out from the spec's formats, single
steps from the spec's vectors V1 to V7 (the number of the vector is in the name), and for every statement with hypotheses
a witness that meets them. The vectors' `FW_VERSION` = 0x0102 is not assumed: the version is the open constant. -/

set_option maxRecDepth 4000

namespace Sys2Proof.Tests

open Sys2Proof.Machine

/-! ## Well-formedness -/

/-- An `HRD` word whose ignored field is not 0 (R96). -/
theorem test_illformed_hrd : (Instr.hrd 8 1).wellFormed = false ∧ (Instr.hrd 8 0).wellFormed = true := by decide

/-- An event word of kind `11` (R96, R102). -/
theorem test_illformed_event : EventWord.wellFormed 0x30000 = false ∧ EventWord.wellFormed 0x2FFFF = true := by decide

/-- All wires floating, one wire only, two wires Low: no lamp pattern (R142). -/
theorem test_illformed_pattern : WirePattern.isLampPattern allFloat = false ∧
    WirePattern.isLampPattern #v[.float, .driveLow, .float, .float, .float] = false ∧
    WirePattern.isLampPattern #v[.driveLow, .driveLow, .driveHigh, .float, .float] = false ∧
    WirePattern.isLampPattern #v[.float, .float, .driveLow, .float, .driveHigh] = true := by decide

/-! ## Words written out from R96 and R101 -/

/-- Kind 00, `a` = 00000100, `b` = 00000001 (V7 row 1); kind 00, `a` = 11111111 (V7 row 6). -/
theorem test_word_hwb : decodeTableWord 24 0b000000010000000001 = some (.hwb 4 1) ∧
    decodeTableWord 24 0b001111111110101010 = some (.hwb 255 0xAA) := by decide

/-- Kind 01 (V7 rows 2 and 4). -/
theorem test_word_hwc : decodeTableWord 24 0b010000010000000001 = some (.hwc 4 1) ∧
    decodeTableWord 24 0b010000000000000000 = some (.hwc 0 0) := by decide

/-- Kind 10 (V7 rows 8 and 12). -/
theorem test_word_hrd : decodeTableWord 24 0b100000100000000000 = some (.hrd 8 0) ∧
    decodeTableWord 24 0b101111111100000000 = some (.hrd 255 0) := by decide

/-- Phases 1, 2 and 6: positions 0000000, 0000001, 0000010, 0000011, 1000110. -/
theorem test_word_snapshot : decode [0b0000000] = .ok .rfsh ∧ decode [0b0000001] = .ok .rfcl ∧
    decode [0b0000010] = .ok .ack ∧ decode [0b0000011] = .ok .ackcl ∧ decode [0b1000110] = .ok .shdw := by decide

/-- The lamp family: `4 + 2i`, `5 + 2i`, 44. -/
theorem test_word_lamps : decode [0b0000100] = .ok .lon0 ∧ decode [0b0000101] = .ok .loff0 ∧
    decode [0b0010110] = .ok .lon9 ∧ decode [0b0010111] = .ok .loff9 ∧ decode [0b0101010] = .ok .lon19 ∧
    decode [0b0101011] = .ok .loff19 ∧ decode [0b0101100] = .ok .lend := by decide

/-- Version and scanner: 45, 46, `47 + 3k`, `48 + 3k`, `49 + 3k`. -/
theorem test_word_scanner : decode [0b0101101] = .ok .ver0 ∧ decode [0b0101110] = .ok .ver1 ∧
    decode [0b0101111] = .ok .sela0 ∧ decode [0b0110000] = .ok .samp0 ∧ decode [0b0110001] = .ok .seli0 ∧
    decode [0b0111011] = .ok .sela4 ∧ decode [0b0111100] = .ok .samp4 ∧ decode [0b0111101] = .ok .seli4 := by decide

/-- Handshake: 62, `63 + k`, 68, 69. -/
theorem test_word_handshake : decode [0b0111110] = .ok .bcmp ∧ decode [0b0111111] = .ok .bwr0 ∧
    decode [0b1000011] = .ok .bwr4 ∧ decode [0b1000100] = .ok .irqa ∧ decode [0b1000101] = .ok .pbup := by decide

/-- Position 71, kind `11`, bit 18, two bytes: rejected, each by name (R102, R103). -/
theorem test_word_rejected : decode [71] = .error .reservedPosition ∧ decode [0, 0, 3] = .error .notAnEvent ∧
    decode [0, 0, 4] = .error .excessBits ∧ decode [0, 0] = .error .badLength ∧ decodeTableWord 8 71 = none := by decide

/-- The words of `LT(1)` and `LT(2)` and of `AllFloat` (R95). -/
theorem test_word_patterns : encodePattern (pattern 1) = 0x290 ∧ encodePattern (pattern 2) = 0x0A4 ∧
    encodePattern allFloat = 0 ∧ decodePattern 0x290 = pattern 1 := by decide

/-- `SETLAMPS 0x00000202` and `HWRITE 13, 0x55` as event words (programs P4 and P5). -/
theorem test_word_transactions :
    setLampsTransaction 0x00000202 = [0x00402, 0x00502, 0x00600, 0x00700, 0x10404] ∧
    writeTransaction 13 [0x55] = [0x00D55, 0x10D01] ∧
    getVersionWords = [0x20000, 0x20100] := by decide

/-- The test-only table `LT_REF`: entries 3 to 20 in lexicographic order of their pairs; first ten entries. -/
theorem test_ltRef_low : (List.finRange 20).map (fun i => patternOE (lampTable (Equiv.refl _) i)) =
    [0b10100, 0b00101, 0b00011, 0b01001, 0b10001, 0b00011, 0b00110, 0b01010, 0b10010, 0b00101] ++
    [0b00110, 0b01100, 0b01001, 0b01010, 0b01100, 0b11000, 0b10001, 0b10010, 0b10100, 0b11000] := by decide

theorem test_ltRef_high : (List.finRange 20).map (fun i => patternDO (lampTable (Equiv.refl _) i)) =
    [0b10000, 0b00100, 0b00010, 0b01000, 0b10000, 0b00001, 0b00100, 0b01000, 0b10000, 0b00001] ++
    [0b00010, 0b01000, 0b00001, 0b00010, 0b00100, 0b10000, 0b00001, 0b00010, 0b00100, 0b01000] := by decide

/-! ## Single steps -/

/-- The operation answers a next state of which `p` holds. -/
def after (i : Instr) (s : State) (p : State → Bool) : Bool :=
  match exec i s with
  | .next t => p t
  | .fault _ => false
  | .refused _ => false

/-- The reset state at a position, with some bytes of `RF` and `CUR` written. -/
def at_ (p : SeqPos) (rf : List (Offset × Byte)) (cur : List (Offset × Byte)) : State :=
  { State.reset with
    seq := p
    rf := rf.foldl (fun m x => m.write x.1 x.2) State.reset.rf
    cur := cur.foldl (fun m x => m.write x.1 x.2) State.reset.cur }

theorem test_V1_1_rfsh : after .rfsh (at_ 0 [(4, 0xFF)] [])
    (fun t => t.cur.read 4 == some 0 && t.seq == 2) = true := by decide
theorem test_V1_2_rfsh : after .rfsh { at_ 0 [(4, 0xFF), (13, 0x55)] [] with rc := true }
    (fun t => t.cur.read 4 == some 0xFF && t.cur.read 13 == some 0x55 && t.rc && t.seq == 1) = true := by decide
theorem test_V1_3_rfcl : after .rfcl { at_ 1 [] [] with rc := true } (fun t => !t.rc && t.seq == 2) = true := by decide
theorem test_V1_5_shdw : after .shdw (at_ 70 [] [(4, 0xFF)])
    (fun t => t.prev.read 4 == some 0xFF && t.seq == 0) = true := by decide

theorem test_V2_2_ver0 : ∃ t, exec .ver0 (at_ 45 [(0, 0xEE), (1, 0xEE)] []) = .next t ∧
    t.rf.read 0 = some (Config.fwVersion.extractLsb' 0 8) ∧ t.rf.read 1 = some 0xEE ∧ t.seq = 46 :=
  ⟨_, rfl, rfl, rfl, rfl⟩
theorem test_V2_3_ver1 : ∃ t, exec .ver1 (at_ 46 [(0, 0xEE), (1, 0xEE)] []) = .next t ∧
    t.rf.read 1 = some (Config.fwVersion.extractLsb' 8 8) ∧ t.rf.read 0 = some 0xEE ∧ t.seq = 47 :=
  ⟨_, rfl, rfl, rfl, rfl⟩

theorem test_V3_13_lon0 : after .lon0 (at_ 4 [] [(4, 0x01)])
    (fun t => t.w == #v[.float, .float, .driveLow, .float, .driveHigh] && t.seq == 5) = true := by decide
theorem test_V3_14_lon0 : after .lon0 (at_ 4 [] [(4, 0xFE)]) (fun t => t.w == allFloat && t.seq == 6) = true := by
  decide
theorem test_V3_16_lon19 : ∃ t, exec .lon19 (at_ 42 [] [(6, 0x08)]) = .next t ∧ t.w = pattern 20 ∧ t.seq = 43 :=
  ⟨_, rfl, rfl, rfl⟩
theorem test_V3_17_lon19 : after .lon19 (at_ 42 [] [(6, 0xF7), (7, 0xFF)])
    (fun t => t.w == allFloat && t.seq == 44) = true := by decide
theorem test_V3_15_loff0 : after .loff0 { at_ 5 [] [] with w := pattern 1 }
    (fun t => t.w == allFloat && t.seq == 6) = true := by decide
theorem test_V3_18_loff19 : after .loff19 { at_ 43 [] [] with w := pattern 2 }
    (fun t => t.w == allFloat && t.seq == 44) = true := by decide
theorem test_V3_19_lend : after .lend (at_ 44 [] []) (fun t => t.w == allFloat && t.seq == 45) = true := by decide

theorem test_V4_enc : enc 0 = (0, 0) ∧ enc 1 = (0b10100, 0b10000) ∧ enc 2 = (0b00101, 0b00100) ∧ enc 21 = (0, 0) ∧
    enc 255 = (0, 0) ∧ enc (-1) = (0, 0) := by decide

theorem test_V5_1_sela0 : after .sela0 (at_ 47 [] [])
    (fun t => t.sel == #v[.active, .idle, .idle, .idle, .idle] && t.selPort == 0b11110 && t.seq == 48) = true := by
  decide
theorem test_V5_6_sela4 : after .sela4 (at_ 59 [] [])
    (fun t => t.sel == #v[.idle, .idle, .idle, .idle, .active] && t.selPort == 0b01111 && t.seq == 60) = true := by
  decide
/-- `Sense()` = 0b010: switches 0 and 2 of the selected bank are closed. -/
theorem test_V5_2_samp0 : after .samp0 { at_ 48 [] [] with
      sel := #v[.active, .idle, .idle, .idle, .idle], contacts := #v[some 0b101, some 0b010, none, none, none] }
    (fun t => t.btn == #v[5, 0, 0, 0, 0] && t.senseDraws == 0 && t.seq == 49) = true := by decide
/-- `Sense()` = 0b110: switch 0 of bank 4 is closed. -/
theorem test_V5_7_samp4 : after .samp4 { at_ 60 [] [] with
      btn := #v[1, 2, 3, 4, 7], sel := #v[.idle, .idle, .idle, .idle, .active],
      contacts := #v[none, none, none, none, some 0b001] }
    (fun t => t.btn == #v[1, 2, 3, 4, 1] && t.seq == 61) = true := by decide
/-- Contacts that nobody fixed: a free draw, whatever it is (R163). -/
theorem test_samp_draws : ∃ t, exec .samp0 (at_ 48 [] []) = .next t ∧ t.btn[0] = bankByte (Config.senseDraw 0) ∧
    t.senseDraws = 1 := ⟨_, rfl, rfl, rfl⟩
theorem test_V5_5_seli0 : after .seli0 { at_ 49 [] [] with sel := #v[.active, .idle, .idle, .idle, .idle] }
    (fun t => t.selPort == 0b11111 && t.seq == 50) = true := by decide
theorem test_V5_8_seli4 : after .seli4 { at_ 61 [] [] with sel := #v[.idle, .idle, .idle, .idle, .active] }
    (fun t => t.selPort == 0b11111 && t.seq == 62) = true := by decide

theorem test_V6_9_bcmp : after .bcmp { at_ 62 [] [] with btn := #v[0, 0, 0, 0, 1] } (fun t => t.seq == 63) = true := by
  decide
theorem test_V6_10_bcmp : after .bcmp { at_ 62 [] [] with btn := #v[5, 0, 0, 0, 0], pbtn := #v[5, 0, 0, 0, 0] }
    (fun t => t.seq == 69) = true := by decide
theorem test_V6_13_bwr4 : after .bwr4 { at_ 67 [] [] with btn := #v[1, 2, 4, 5, 3] }
    (fun t => t.rf.read 12 == some 3 && t.rf.read 11 == some 0 && !t.rc && t.seq == 68) = true := by decide
theorem test_bwr0 : after .bwr0 { at_ 63 [] [] with btn := #v[5, 0, 0, 0, 0] }
    (fun t => t.rf.read 8 == some 5 && t.seq == 64) = true := by decide
theorem test_V6_14_irqa : after .irqa { at_ 68 [] [] with irq := .asserted, bc := true }
    (fun t => t.irq == .asserted && t.bc && t.seq == 69) = true := by decide
theorem test_V6_15_ack : after .ack { at_ 2 [] [] with irq := .asserted }
    (fun t => t.irq == .asserted && t.seq == 4) = true := by decide
theorem test_ack_releases : after .ack { at_ 2 [] [] with irq := .asserted, bc := true }
    (fun t => t.irq == .deasserted && t.bc && t.seq == 3) = true := by decide
theorem test_ackcl : after .ackcl { at_ 3 [] [] with bc := true } (fun t => !t.bc && t.seq == 4) = true := by decide
theorem test_pbup : after .pbup { at_ 69 [] [] with btn := #v[5, 0, 0, 0, 0] }
    (fun t => t.pbtn == #v[5, 0, 0, 0, 0] && t.seq == 70) = true := by decide

theorem test_V7_5_hwb : after (.hwb 254 0xAA) (at_ 9 [] [])
    (fun t => t.rf.read 254 == some 0xAA && !t.rc && t.seq == 9) = true := by decide +kernel
theorem test_V7_6_hwb : ∀ s : State, exec (.hwb 255 0xAA) s = .next s := fun _ => rfl
theorem test_V7_4_hwc : after (.hwc 0 0) (at_ 9 [] []) (fun t => t.rc && t.seq == 9) = true := by decide
theorem test_V7_9_hrd : after (.hrd 12 0) (at_ 9 [(12, 3)] [])
    (fun t => t.hrdData == 3 && t.bc && t.irq == .deasserted) = true := by decide
theorem test_V7_7_10_hrd : after (.hrd 7 0) (at_ 9 [(7, 0x5A)] []) (fun t => t.hrdData == 0x5A && !t.bc) = true ∧
    after (.hrd 13 0) (at_ 9 [] []) (fun t => t.hrdData == 0 && !t.bc) = true := by decide
theorem test_V7_12_hrd : ∃ t, exec (.hrd 255 0) (at_ 9 [] []) = .next t ∧ t.hrdData = Config.outsideDraw 0 ∧
    t.bc = false ∧ t.readDraws = 1 ∧ t.senseDraws = 0 := ⟨_, rfl, rfl, rfl, rfl, rfl⟩

/-! ## The step -/

/-- The first step after reset is `RFSH`, which finds `RC` = 0 (R260, R262). -/
theorem test_first_step : step State.reset = .next { State.reset with seq := 2 } := rfl

/-- A placed word is what the next step runs. -/
theorem test_withFetchWord : step (State.reset.withFetchWord 8 68) = .next { State.reset with irq := .asserted, seq := 69 } ∧
    step (State.reset.withFetchWord 24 0x10404) = .next { State.reset with rc := true } := ⟨rfl, rfl⟩

/-- A word of kind `11` is refused by name. -/
theorem test_kind11 : step { State.reset with agenda := [.host 0x30000] } = .refused (.undecodable .notAnEvent) := rfl

/-- The reset event, from a state where everything differs. -/
theorem test_rst : step { at_ 69 [(4, 1)] [(4, 1)] with rc := true, irq := .asserted, agenda := [.rst] } =
    .next State.reset := rfl

/-! ## Witnesses: states and operands that meet the hypotheses of each statement, each clause at its ends -/

theorem witness_EncodeOfDecodeIsTheBytes : decode [0xAA, 0xFE, 0x00] = .ok (.hwb 254 0xAA) ∧
    decode [70] = .ok .shdw := by decide

theorem witness_WordsOfTheSpecDecode : 71 ≤ (71 : Byte).toNat ∧ 71 ≤ (255 : Byte).toNat ∧
    (4 : Byte).extractLsb' 2 6 ≠ 0 ∧ (255 : Byte).extractLsb' 2 6 ≠ 0 := by decide

/-- Wires 0 and 4 of a word with no output enabled and all levels 1. -/
theorem witness_WirePatternWordRoundTrip : (0b0000011111 : BitVec 10).getLsbD (5 + (0 : Fin 5).val) = false ∧
    (0b0000011111 : BitVec 10).getLsbD (5 + (4 : Fin 5).val) = false := by decide

theorem witness_StoreThenReadOfOneByte : (254 : Offset) ≠ 255 ∧ ((0 : Offset) ≠ 254 ∨ (254 : Offset) = 255) ∧
    ((255 : Offset) ≠ 255 ∨ (255 : Offset) = 255) := by decide

/-- Mask bits 0 and 31, version bit 15. -/
theorem witness_FieldsAreLittleEndian :
    (State.reset.rf.write 4 1).read (BitVec.ofNat 8 (4 + (0 : Fin 32).val / 8)) = some 1 ∧
    (State.reset.rf.write 7 9).read (BitVec.ofNat 8 (4 + (31 : Fin 32).val / 8)) = some 9 ∧
    (State.reset.rf.write 1 9).read (BitVec.ofNat 8 ((15 : Fin 16).val / 8)) = some 9 := by decide

theorem witness_LampTableIsABijection : lampPattern 19 = lampPattern 19 ∧ (0 : Fin 5) ≠ 1 ∧ (4 : Fin 5) ≠ 3 :=
  ⟨rfl, by decide, by decide⟩

theorem witness_PatternIsTotal : ((0 : Int) < 1 ∨ 20 < (0 : Int)) ∧ ((21 : Int) < 1 ∨ 20 < (21 : Int)) := by decide

theorem witness_EncoderOfALamp : ((0 : Int) < 1 ∨ 20 < (0 : Int)) ∧ ((21 : Int) < 1 ∨ 20 < (21 : Int)) := by decide

/-- Bank `k` selected alone, its contacts fixed. -/
def sampling (k : Fin 5) : State :=
  { at_ 48 [] [] with
    sel := (Vector.replicate 5 SelectState.idle).set k .active
    contacts := Vector.replicate 5 (some 0b101) }

theorem witness_SampleStoresTheInvertedLevels : ∀ k : Fin 5,
    (∀ j : Fin 5, (sampling k).sel[j] = .active ↔ j = k) ∧ (sampling k).contacts[k] = some 0b101 := by decide

/-- Only the last byte differs; all are equal. -/
theorem witness_CompareBranchesOnAnyByte :
    (∃ k : Fin 5, ({ State.reset with btn := #v[0, 0, 0, 0, 1] } : State).btn[k] ≠ State.reset.pbtn[k]) ∧
    (∀ k : Fin 5, State.reset.btn[k] = State.reset.pbtn[k]) := by decide

theorem witness_HostByteLands : (254 : Offset) ≠ 255 ∧ ((253 : Offset) ≠ 254 ∨ (254 : Offset) = 255) ∧
    ((3 : Offset) ≠ 255 ∨ (255 : Offset) = 255) := by decide

theorem witness_HostReadReturnsTheByte : (254 : Offset) ≠ 255 ∧ (0 : Offset) ≠ 255 := by decide

theorem witness_AnyBankReadAcknowledges : 8 ≤ (8 : Offset).toNat ∧ (8 : Offset).toNat ≤ 12 ∧
    8 ≤ (12 : Offset).toNat ∧ (12 : Offset).toNat ≤ 12 := by decide

/-- A Loop step with an empty agenda and with `loop` at its head, a Host step. -/
theorem witness_StepRunsTheDecodedOperation :
    decode State.reset.fetch = .ok .rfsh ∧ ({ State.reset with agenda := [.loop] } : State).agenda.head? = some .loop ∧
    decode ({ State.reset with agenda := [.host 0x20800] } : State).fetch = .ok (.hrd 8 0) ∧
    ({ State.reset with agenda := [.host 0x20800] } : State).agenda.head? = some (.host 0x20800) := by decide

theorem witness_PlacedWordRunsNext : (0 : SeqPos).val = 0 ∧ decodeTableWord 8 0 = some .rfsh ∧ (70 : SeqPos).val = 70 ∧
    decodeTableWord 8 70 = some .shdw ∧ decodeTableWord 24 0x2FF00 = some (.hrd 255 0) := by decide

theorem witness_ResetValuesOfTheBlock : State.reset.rf.read 2 = some 0 ∧ State.reset.rf.read 254 = some 0 ∧
    State.reset.cur.read 254 = some 0 ∧ State.reset.prev.read 0 = some 0 ∧
    ({ State.reset with agenda := [.rst] } : State).agenda.head? = some .rst := by decide +kernel

theorem witness_ResetValuesOfTheVersion : State.reset.rf.read 0 = some (Config.fwVersion.extractLsb' 0 8) ∧
    State.reset.rf.read 1 = some (Config.fwVersion.extractLsb' 8 8) := ⟨rfl, rfl⟩

theorem witness_PanelChangesNoBlockState :
    ({ State.reset with agenda := [.panel 4 (some 7)] } : State).agenda.head? = some (.panel 4 (some 7)) := by decide

/-- Every clause: both ends of each range of positions, both sides of the comparison. -/
theorem witness_SuccessorOfEveryPosition : State.reset.agenda = [] ∧
    ((1 : Nat) ∈ [1, 3] ∧ (3 : Nat) ∈ [1, 3]) ∧ (4 < (5 : Nat) ∧ (5 : Nat) < 44 ∧ 5 % 2 = 1) ∧
    (4 < (43 : Nat) ∧ (43 : Nat) < 44 ∧ 43 % 2 = 1) ∧ (44 ≤ (44 : Nat) ∧ (44 : Nat) < 70 ∧ (44 : Nat) ≠ 62) ∧
    (44 ≤ (69 : Nat) ∧ (69 : Nat) < 70 ∧ (69 : Nat) ≠ 62) ∧ (4 : SeqPos).val = 4 + 2 * (0 : Fin 20).val ∧
    (42 : SeqPos).val = 4 + 2 * (19 : Fin 20).val ∧
    (∃ k : Fin 5, ({ at_ 62 [] [] with btn := #v[0, 0, 0, 0, 1] } : State).btn[k] ≠ State.reset.pbtn[k]) ∧
    (∀ k : Fin 5, (at_ 62 [] []).btn[k] = (at_ 62 [] []).pbtn[k]) := by decide

/-- Lamp 1 lit in the middle of a pass, a notification pending. -/
def lampLit : State := { at_ 5 [] [(4, 1)] with w := pattern 1, rc := true }

theorem lampLit_inv : lampLit.Inv := by
  refine ⟨by decide, by decide, by unfold bankHeld; decide, by decide, by decide, by decide, by decide, fun _ => rfl,
    by decide, by decide⟩

/-- A change is in `RF[8]`, the line is about to rise. -/
def beforeIrqa : State := { at_ 68 [(8, 5)] [] with btn := #v[5, 0, 0, 0, 0] }

/-- The same one step later. -/
def beforePbup : State := { beforeIrqa with seq := 69, irq := .asserted }

theorem beforeIrqa_inv : beforeIrqa.Inv ∧ beforeIrqa.banksTrack := by
  refine ⟨⟨by decide, by decide, by unfold bankHeld; decide, by decide, by decide, by decide, by decide,
    fun h => by revert h; decide, by decide, fun _ => rfl⟩, by unfold State.banksTrack; decide⟩

theorem beforePbup_inv : beforePbup.Inv ∧ beforePbup.banksTrack := by
  refine ⟨⟨by decide, by decide, by unfold bankHeld; decide, by decide, by decide, by decide, by decide,
    fun h => by revert h; decide, by decide, fun _ => rfl⟩, by unfold State.banksTrack; decide⟩

theorem witness_EveryStepKeepsTheCycle : lampLit.Inv ∧ ∃ t, step lampLit = .next t := ⟨lampLit_inv, _, rfl⟩

theorem witness_BankRegistersFollowTheScanner : beforePbup.Inv ∧ beforePbup.banksTrack ∧
    beforePbup.pending.writesBank = false ∧ ∃ t, step beforePbup = .next t ∧ t.seq.val = 70 :=
  ⟨beforePbup_inv.1, beforePbup_inv.2, rfl, _, rfl, rfl⟩

theorem witness_AtMostOneLampIsLit : lampLit.lit 0 ∧ lampLit.Inv := ⟨by unfold State.lit; decide, lampLit_inv⟩

/-- Host bytes to offsets 0, 254 and 255, a completion, reads of 8, 12, 13 and 255: each is delivered, and a Loop step
follows. -/
theorem witness_HostEventsTouchOnlyTheirOwn :
    ∀ word ∈ ([0x00055, 0x0FEAA, 0x0FFAA, 0x10404, 0x20800, 0x20C00, 0x20D00, 0x2FF00] : List EventWord),
      ∃ s t v : State, s.agenda.head? = some (.host word) ∧ step s = .next t ∧ step { t with agenda := [] } = .next v := by
  intro word among
  refine ⟨{ State.reset with agenda := [.host word] }, ?_⟩
  simp only [List.mem_cons, List.not_mem_nil, or_false] at among
  rcases among with rfl | rfl | rfl | rfl | rfl | rfl | rfl | rfl <;> exact ⟨_, _, rfl, rfl, rfl⟩

/-- The ends of the clauses about the word's fields: kind 0 inside the file and at 255, the other kinds. -/
theorem witness_HostEventFields :
    (0x0FEAA : EventWord).extractLsb' 16 2 = 0 ∧ (254 : Offset) = (0x0FEAA : EventWord).extractLsb' 8 8 ∧
    (254 : Offset) ≠ 255 ∧ (255 : Offset) = (0x0FFAA : EventWord).extractLsb' 8 8 ∧
    (0x10404 : EventWord).extractLsb' 16 2 ≠ 0 ∧ (0x10404 : EventWord).extractLsb' 16 2 ≠ 2 := by decide

theorem witness_LoopStepsTouchOnlyTheirOwn : ∃ s t : State, s.pending = .loop ∧ step s = .next t ∧ t.rc = true ∧
    t.bc = true ∧ t.rf ≠ s.rf :=
  ⟨{ at_ 63 [] [] with rc := true, bc := true, btn := #v[5, 0, 0, 0, 0] }, _, rfl, rfl, rfl, rfl,
    fun h => absurd (congrArg (fun m => m.read 8) h) (by decide)⟩

theorem witness_SnapshotChangesOnlyAtRefresh : ∃ s t : State, step s = .next t ∧ t.cur ≠ s.cur :=
  ⟨{ at_ 0 [(4, 1)] [] with rc := true }, _, rfl, fun h => absurd (congrArg (fun m => m.read 4) h) (by decide)⟩

/-- A byte lands without a completed write, a bank is read, then the Loop agent steps. -/
theorem witness_RefreshIsIdempotent : ∃ s t : State, s.rc = false ∧ s.agenda ≠ [] ∧
    (∀ x ∈ s.agenda, x ≠ .rst ∧ ∀ word : EventWord, x = .host word → word.extractLsb' 16 2 ≠ 1) ∧
    runSteps 3 s = .next t := by
  refine ⟨{ State.reset with agenda := [.host 0x004FF, .host 0x20800] }, _, rfl, by decide, ?_, rfl⟩
  intro x hx
  simp only [List.mem_cons, List.not_mem_nil, or_false] at hx
  rcases hx with rfl | rfl
  · exact ⟨by decide, fun w h => by cases h; decide⟩
  · exact ⟨by decide, fun w h => by cases h; decide⟩

/-- The line rises; the line falls; the flag is set. -/
theorem witness_LineMovesOnlyInTheHandshake :
    (∃ t, step beforeIrqa = .next t ∧ beforeIrqa.irq = .deasserted ∧ t.irq = .asserted) ∧
    (∃ s t : State, step s = .next t ∧ s.irq = .asserted ∧ t.irq = .deasserted) ∧
    (∃ s t : State, step s = .next t ∧ s.bc = false ∧ t.bc = true) :=
  ⟨⟨_, rfl, rfl, rfl⟩, ⟨{ at_ 2 [] [] with irq := .asserted, bc := true }, _, rfl, rfl, rfl⟩,
    ⟨{ State.reset with agenda := [.host 0x20C00] }, _, rfl, rfl, rfl⟩⟩

theorem witness_BanksAreWrittenBeforeTheLineRises : beforeIrqa.Inv ∧ beforeIrqa.banksTrack ∧
    beforeIrqa.pending = .loop ∧ beforeIrqa.seq.val = 68 ∧ ∃ t, step beforeIrqa = .next t :=
  ⟨beforeIrqa_inv.1, beforeIrqa_inv.2, rfl, rfl, _, rfl⟩

/-- A step that is neither, `SHDW`, the reset event. -/
theorem witness_NothingReadsThePreviousSnapshot :
    (lampLit.seq.val ≠ 70 ∧ lampLit.pending ≠ .rst ∧ ∃ t, step lampLit = .next t) ∧
    ((at_ 70 [] [(4, 1)]).pending = .loop ∧ (at_ 70 [] [(4, 1)]).seq.val = 70 ∧ ∃ t, step (at_ 70 [] [(4, 1)]) = .next t) ∧
    (∃ s t : State, s.pending = .rst ∧ s.seq.val = 70 ∧ step s = .next t) ∧ State.reset.prev.read 254 = some 0 :=
  ⟨⟨by decide, by decide, _, rfl⟩, ⟨rfl, rfl, _, rfl⟩, ⟨{ at_ 70 [] [] with agenda := [.rst] }, _, rfl, rfl, rfl⟩,
    by decide +kernel⟩

/-- Two states that differ in mask bits 20 and 31, in bytes outside the mask, in `PREV` and in `hrd_data`. -/
theorem witness_IgnoredBitsNeverReachAPin : ∃ s s' t : State, s.SamePins s' ∧ s.cur ≠ s'.cur ∧ s.rf ≠ s'.rf ∧
    step s = .next t :=
  ⟨at_ 4 [(9, 1)] [(4, 1)], { at_ 4 [(6, 0xF0), (200, 7)] [(4, 1), (6, 0x10), (7, 0x80)] with hrdData := 3 }, _,
    ⟨by decide, by decide, rfl, rfl, rfl, rfl, rfl, rfl, rfl, rfl, rfl, rfl, rfl⟩,
    fun h => absurd (congrArg (fun m => m.read 7) h) (by decide),
    fun h => absurd (congrArg (fun m => m.read 9) h) (by decide), rfl⟩

/-- The five events of a mask write spread over other steps, one of them a change of the panel. -/
theorem witness_MaskOfOneTransactionIsNeverTorn : ∃ s t : State, s.rc = false ∧ Stimulus.rst ∉ s.agenda ∧
    hostWords s.agenda = setLampsTransaction 0x000FFFFE ∧ runSteps 9 s = .next t :=
  ⟨{ at_ 4 [(4, 1)] [(4, 1)] with
    agenda := [.host 0x004FE, .loop, .host 0x005FF, .panel 0 (some 1), .host 0x0060F, .loop, .host 0x00700, .host 0x10404] },
    _, rfl, by decide, by decide, rfl⟩

theorem witness_PassVisitsExactlyTheSetBits : ∃ s : State, s.agenda = [] ∧ s.seq.val = 4 ∧ s.w = allFloat ∧
    requestedLamps (lampMask s.cur) = 3 := ⟨at_ 4 [] [(4, 3), (6, 0xF8)], rfl, rfl, rfl, by decide⟩

theorem witness_CycleTakesTheStatedSteps : ∃ s : State, s.agenda = [] ∧ s.seq.val = 0 ∧ s.rc = true ∧ s.bc = true :=
  ⟨{ State.reset with rc := true, bc := true }, rfl, rfl, rfl, rfl⟩

theorem witness_HandshakeOverOneCycle : ∃ s : State, s.agenda = [] ∧ s.seq.val = 0 ∧ s.irq = .asserted ∧ s.bc = true :=
  ⟨{ State.reset with irq := .asserted, bc := true }, rfl, rfl, rfl, rfl⟩

theorem witness_VersionFieldIsRestored : (at_ 45 [(0, 0xEE)] []).agenda = [] ∧ (at_ 45 [(0, 0xEE)] []).seq.val = 45 := by
  decide

/-- The closed switches of the source's round-trip example (vector E10). -/
theorem witness_ScanShowsTheClosedSwitches : ∃ (s : State) (closed : Fin 5 → Contacts), s.agenda = [] ∧
    s.seq.val = 47 ∧ (∀ k : Fin 5, s.sel[k] = .idle) ∧ ∀ k : Fin 5, s.contacts[k] = some (closed k) :=
  ⟨{ at_ 47 [] [] with contacts := #v[some 1, some 2, some 4, some 7, some 0] },
    fun k => (#v[1, 2, 4, 7, 0] : Vector Contacts 5)[k], rfl, rfl, by decide, by decide⟩

/-- A write that runs over the end of the file, and the first and last offset inside it. -/
theorem witness_BusWriteLandsInOrder : ∃ s : State, s.agenda = (writeTransaction 253 [1, 2, 3]).map .host ∧
    (writeTransaction 253 [1, 2, 3]).length = 3 ∧ (253 : Offset) ≠ 255 ∧ (254 : Offset) ≠ 255 :=
  ⟨{ State.reset with agenda := (writeTransaction 253 [1, 2, 3]).map .host }, rfl, rfl, by decide, by decide⟩

theorem witness_LostNotificationIsARun : ∃ (s : State) (off : Offset) (v : Byte), off ≠ 255 ∧ s.seq.val = 1 ∧
    s.agenda = [.host (eventWord 0 off v), .host (eventWord 1 off 1), .loop] :=
  ⟨{ at_ 1 [] [] with
    rc := true, agenda := [.host (eventWord 0 254 2), .host (eventWord 1 254 1), .loop] }, 254, 2, by decide, rfl, rfl⟩

theorem witness_TornMaskIsARun : ∃ (s : State) (v : Byte), s.rc = true ∧ s.seq.val = 0 ∧
    s.agenda = [.host (eventWord 0 4 v), .loop] :=
  ⟨{ at_ 0 [(4, 1)] [] with rc := true, agenda := [.host (eventWord 0 4 2), .loop] }, 2, rfl, rfl, rfl⟩

/-- A bank read pending as the line is about to rise, without and with a notification pending. -/
def staleRead (rc : Bool) : State := { beforeIrqa with bc := true, rc := rc }

theorem staleRead_inv (rc : Bool) : (staleRead rc).Inv := by
  cases rc <;>
    exact ⟨by decide, by decide, by unfold bankHeld; decide, by decide, by decide, by decide, by decide,
      fun h => by revert h; decide, by decide, fun _ => rfl⟩

theorem witness_StaleAcknowledgementIsARun : ∀ rc : Bool, ∃ s : State, s.agenda = [] ∧ s.seq.val = 68 ∧ s.bc = true ∧
    s.rc = rc ∧ s.Inv := fun rc => ⟨staleRead rc, rfl, rfl, rfl, rfl, staleRead_inv rc⟩

/-! ## Infinite runs -/

/-- From reset there is a fair interleaving without end in which the host reads a bank register before every Loop step
(R17). -/
theorem test_fair_interleaving : ∃ (choices : Nat → Stimulus) (states : Nat → State),
    states 0 = State.reset ∧ FairInterleaving choices states ∧ choices 0 = .host 0x20800 := by
  let choices : Nat → Stimulus := fun n => if n % 2 = 0 then .host 0x20800 else .loop
  have deliverable : ∀ n, (choices n).deliverable := by
    intro n word h
    simp only [choices] at h
    split at h <;> cases h
    decide
  obtain ⟨states, start, run⟩ := infiniteRun_exists State.reset choices deliverable
  refine ⟨choices, states, start, ⟨run, fun n => ⟨2 * n + 1, by omega, ?_⟩, fun n => ?_⟩, rfl⟩
  · simp only [choices, if_neg (show ¬ (2 * n + 1) % 2 = 0 by omega)]
  · simp only [choices]
    split <;> exact fun h => by cases h

/-- What is observed of a bank read and of a Loop step. -/
theorem test_observe : (observe (.host 0x20800) { State.reset with hrdData := 7 }).returned = some 7 ∧
    (observe .loop { State.reset with hrdData := 7 }).returned = none := by decide

end Sys2Proof.Tests
end

section
/-! SUPPORT. The statements about one step and its scope: which agent is next, the bytes that stand next, and what a step
makes of them (R14, R15, R78, R104). -/

namespace Sys2Proof.Machine

/-- With nothing on the agenda the Loop agent is next. -/
theorem pending_of_agenda_nil {s : State} (h : s.agenda = []) : s.pending = .loop := by
  simp only [State.pending, h]

/-- The head of the agenda is what happens next. -/
theorem pending_of_head? {s : State} {x : Stimulus} (h : s.agenda.head? = some x) : s.pending = x := by
  obtain ⟨rest, agenda⟩ := List.head?_eq_some_iff.mp h
  simp only [State.pending, agenda]

theorem fetch_of_loop {s : State} (h : s.pending = .loop) : s.fetch = [BitVec.ofNat 8 s.seq.val] := by
  simp only [State.fetch, h]

theorem fetch_of_host {s : State} {word : EventWord} (h : s.pending = .host word) : s.fetch = eventBytes word := by
  simp only [State.fetch, h]

theorem fetch_of_panel {s : State} {k : Fin 5} {closed : Option Contacts} (h : s.pending = .panel k closed) :
    s.fetch = [] := by
  simp only [State.fetch, h]

theorem fetch_of_rst {s : State} (h : s.pending = .rst) : s.fetch = [] := by
  simp only [State.fetch, h]

theorem decode_nil_ne_ok (i : Instr) : decode [] ≠ .ok i := nofun

/-- Bytes that decode are run: only a Loop or a Host step has any, the panel and reset fetch none. -/
theorem step_of_decode {s : State} {i : Instr} (d : decode s.fetch = .ok i) : step s = exec i s.consume := by
  cases p : s.pending with
  | loop => exact step_of_loop s i p (by rwa [fetch_of_loop p] at d)
  | host word => exact step_of_host s word i p (by rwa [fetch_of_host p, decode_eventBytes] at d)
  | panel k closed => exact absurd (fetch_of_panel p ▸ d) (decode_nil_ne_ok i)
  | rst => exact absurd (fetch_of_rst p ▸ d) (decode_nil_ne_ok i)

/-- Settles O33: the operation is run by `step_of_decode`; the bytes are those of the agent at the head of the agenda. -/
theorem stepRunsTheDecodedOperation : Obligations.StepRunsTheDecodedOperation := by
  intro s
  refine ⟨fun i d => step_of_decode d, ?_, fun word h => fetch_of_host (pending_of_head? h)⟩
  rintro (none | loop)
  · exact fetch_of_loop (pending_of_agenda_nil none)
  · exact fetch_of_loop (pending_of_head? loop)

/-- Settles O37: the step is the panel's change, which replaces bank `k`'s entry of the contacts alone. -/
theorem panelChangesNoBlockState : Obligations.PanelChangesNoBlockState := by
  intro s k closed h
  refine ⟨s.contacts.set k closed, step_of_panel s k closed (pending_of_head? h), ?_, fun j other => ?_⟩
  · exact Vector.getElem_set_self k.isLt
  · exact Vector.getElem_set_ne k.isLt j.isLt fun same => other (Fin.ext same.symm)

end Sys2Proof.Machine
end

section
/-! SUPPORT. What the statements about the state share: the operations by family, the inversion of a step, the bits of the
two multi-byte fields. -/

namespace Sys2Proof

/-- Every operation is one of the three events, of the eleven single micro-operations or of the six indexed families
(R100): a property of all operations is proved family by family. -/
theorem Instr.byFamily {motive : Instr → Prop} (hwb : ∀ off val, motive (.hwb off val))
    (hwc : ∀ off len, motive (.hwc off len)) (hrd : ∀ off unused, motive (.hrd off unused)) (rfsh : motive .rfsh)
    (rfcl : motive .rfcl) (ack : motive .ack) (ackcl : motive .ackcl) (lampOn : ∀ i, motive (lon i))
    (lampOff : ∀ i, motive (loff i)) (lend : motive .lend) (ver0 : motive .ver0) (ver1 : motive .ver1)
    (select : ∀ k, motive (sela k)) (sample : ∀ k, motive (samp k)) (deselect : ∀ k, motive (seli k))
    (bcmp : motive .bcmp) (writeBank : ∀ k, motive (bwr k)) (irqa : motive .irqa) (pbup : motive .pbup)
    (shdw : motive .shdw) (x : Instr) : motive x :=
  match x with
  | .hwb off val => hwb off val | .hwc off len => hwc off len | .hrd off unused => hrd off unused
  | .rfsh => rfsh | .rfcl => rfcl | .ack => ack | .ackcl => ackcl
  | .lon0 => lampOn 0 | .lon1 => lampOn 1 | .lon2 => lampOn 2 | .lon3 => lampOn 3 | .lon4 => lampOn 4
  | .lon5 => lampOn 5 | .lon6 => lampOn 6 | .lon7 => lampOn 7 | .lon8 => lampOn 8 | .lon9 => lampOn 9
  | .lon10 => lampOn 10 | .lon11 => lampOn 11 | .lon12 => lampOn 12 | .lon13 => lampOn 13 | .lon14 => lampOn 14
  | .lon15 => lampOn 15 | .lon16 => lampOn 16 | .lon17 => lampOn 17 | .lon18 => lampOn 18 | .lon19 => lampOn 19
  | .loff0 => lampOff 0 | .loff1 => lampOff 1 | .loff2 => lampOff 2 | .loff3 => lampOff 3 | .loff4 => lampOff 4
  | .loff5 => lampOff 5 | .loff6 => lampOff 6 | .loff7 => lampOff 7 | .loff8 => lampOff 8 | .loff9 => lampOff 9
  | .loff10 => lampOff 10 | .loff11 => lampOff 11 | .loff12 => lampOff 12 | .loff13 => lampOff 13
  | .loff14 => lampOff 14 | .loff15 => lampOff 15 | .loff16 => lampOff 16 | .loff17 => lampOff 17
  | .loff18 => lampOff 18 | .loff19 => lampOff 19 | .lend => lend | .ver0 => ver0 | .ver1 => ver1
  | .sela0 => select 0 | .sela1 => select 1 | .sela2 => select 2 | .sela3 => select 3 | .sela4 => select 4
  | .samp0 => sample 0 | .samp1 => sample 1 | .samp2 => sample 2 | .samp3 => sample 3 | .samp4 => sample 4
  | .seli0 => deselect 0 | .seli1 => deselect 1 | .seli2 => deselect 2 | .seli3 => deselect 3 | .seli4 => deselect 4
  | .bcmp => bcmp | .bwr0 => writeBank 0 | .bwr1 => writeBank 1 | .bwr2 => writeBank 2 | .bwr3 => writeBank 3
  | .bwr4 => writeBank 4 | .irqa => irqa | .pbup => pbup | .shdw => shdw

/-- What a position is read as encodes to that position (R101). -/
theorem encode_of_decodePosition : ∀ p : SeqPos,
    (decodePosition (BitVec.ofNat 8 p.val)).map encode = .ok [BitVec.ofNat 8 p.val] := by decide

/-- Bit `i` of the lamp mask is bit `i mod 8` of the byte at offset `4 + i div 8` (R33, R97). -/
theorem lampMask_getLsbD (m : RegFile) (i : Fin 32) :
    (lampMask m).getLsbD i.val = m[4 + i.val / 8].getLsbD (i.val % 8) := by
  obtain ⟨i, lt⟩ := i
  have byte : i < 8 ∨ 8 ≤ i ∧ i < 16 ∨ 16 ≤ i ∧ i < 24 ∨ 24 ≤ i := by omega
  simp only [lampMask, BitVec.getLsbD_append]
  rcases byte with h | h | h | h
  · simp [h, Nat.div_eq_of_lt, Nat.mod_eq_of_lt]
  · have q : i / 8 = 1 := by omega
    simp [q, show ¬ i < 8 by omega, show i - 8 < 8 by omega, show i % 8 = i - 8 by omega]
  · have q : i / 8 = 2 := by omega
    simp [q, show ¬ i < 8 by omega, show ¬ i - 8 < 8 by omega, show i - 8 - 8 < 8 by omega,
      show i % 8 = i - 8 - 8 by omega]
  · have q : i / 8 = 3 := by omega
    simp [q, show ¬ i < 8 by omega, show ¬ i - 8 < 8 by omega, show ¬ i - 8 - 8 < 8 by omega,
      show i % 8 = i - 8 - 8 - 8 by omega]

/-- Bit `i` of the version field is bit `i mod 8` of the byte at offset `i div 8` (R31). -/
theorem versionField_getLsbD (m : RegFile) (i : Fin 16) :
    (versionField m).getLsbD i.val = m[i.val / 8].getLsbD (i.val % 8) := by
  obtain ⟨i, lt⟩ := i
  simp only [versionField, BitVec.getLsbD_append]
  by_cases h : i < 8
  · simp [h, Nat.div_eq_of_lt, Nat.mod_eq_of_lt]
  · have q : i / 8 = 1 := by omega
    simp [q, h, show i % 8 = i - 8 by omega]

end Sys2Proof

namespace Sys2Proof.Machine

/-- What a step that answers has done: it ran the operation whose bytes stand next, or it was the panel's change, or the
reset event. -/
theorem step_next_cases {s t : State} (h : step s = .next t) :
    (∃ i, decode s.fetch = .ok i ∧ exec i s.consume = .next t) ∨
    (∃ k closed, s.pending = .panel k closed ∧ t = s.consume.panelChange k closed) ∨
    (s.pending = .rst ∧ t = s.consume.resetBlock) := by
  have ran (run : runFetched s = .next t) : ∃ i, decode s.fetch = .ok i ∧ exec i s.consume = .next t := by
    unfold runFetched at run
    split at run
    · exact ⟨_, ‹_›, run⟩
    · cases run
  unfold step at h
  split at h
  · exact .inl (ran h)
  · exact .inl (ran h)
  · cases h
    exact .inr (.inl ⟨_, _, ‹_›, rfl⟩)
  · cases h
    exact .inr (.inr ⟨‹_›, rfl⟩)

/-- The bytes that stand next are told by what is pending and by the position. -/
theorem fetch_congr {s s' : State} (pending : s.pending = s'.pending) (seq : s.seq = s'.seq) : s.fetch = s'.fetch := by
  unfold State.fetch
  rw [pending, seq]

/-- A micro-operation stands next only in a Loop step, and at its own position. -/
theorem position_of_decode {s : State} {i : Instr} {p : SeqPos} (d : decode s.fetch = .ok i)
    (e : encode i = [BitVec.ofNat 8 p.val]) : s.pending = .loop ∧ s.seq = p := by
  cases next : s.pending with
  | loop =>
    rw [fetch_of_loop next] at d
    have code := encode_of_decodePosition s.seq
    rw [show decodePosition (BitVec.ofNat 8 s.seq.val) = .ok i from d] at code
    have same : [BitVec.ofNat 8 p.val] = [BitVec.ofNat 8 s.seq.val] := e ▸ Except.ok.inj code
    refine ⟨rfl, Fin.ext ?_⟩
    have byte := congrArg BitVec.toNat (List.head_eq_of_cons_eq same)
    simp only [BitVec.toNat_ofNat] at byte
    omega
  | host word =>
    rw [fetch_of_host next, decode_eventBytes] at d
    have length : (encode i).length = 1 := by rw [e]; rfl
    rcases decodeEvent_cases word with ⟨_, _, _, r⟩ | ⟨_, _, _, r⟩ | ⟨_, _, _, r⟩ | ⟨_, _, _, r⟩ <;> rw [r] at d <;>
      cases d <;> cases length
  | panel k closed => exact absurd (fetch_of_panel next ▸ d) (decode_nil_ne_ok i)
  | rst => exact absurd (fetch_of_rst next ▸ d) (decode_nil_ne_ok i)

end Sys2Proof.Machine
end

section
/-! SUPPORT. The two-state invariant of the pins (R25, R33, R35, R282): one rule per state operation, then the operations
family by family, then the step. -/

namespace Sys2Proof

/-- A write of one byte keeps two files alike in the lamp mask bits 0 to 19. -/
theorem lampMask_write_congr {m n : RegFile} (alike : ∀ i : Fin 20, (lampMask m).getLsbD i.val = (lampMask n).getLsbD i.val)
    (off : Offset) (v : Byte) (i : Fin 20) :
    (lampMask (m.write off v)).getLsbD i.val = (lampMask (n.write off v)).getLsbD i.val := by
  have bit (m : RegFile) := lampMask_getLsbD m (i.castLE (by decide))
  simp only [Fin.val_castLE] at bit
  have old := alike i
  rw [bit, bit] at old ⊢
  rw [RegFile.write_getElem, RegFile.write_getElem]
  split
  · rfl
  · exact old

end Sys2Proof

namespace Sys2Proof.Machine.State.SamePins

open Sys2Proof.Machine

variable {s s' : State} (h : s.SamePins s')
include h

theorem setSeq (p : SeqPos) : (s.setSeq p).SamePins (s'.setSeq p) := { h with seq := rfl }

theorem setW (v : WirePattern) : (s.setW v).SamePins (s'.setW v) := { h with w := rfl }

theorem setIrq (v : IrqLine) : (s.setIrq v).SamePins (s'.setIrq v) := { h with irq := rfl }

theorem setRc (v : Bool) : (s.setRc v).SamePins (s'.setRc v) := { h with rc := rfl }

theorem setBc (v : Bool) : (s.setBc v).SamePins (s'.setBc v) := { h with bc := rfl }

/-- The two snapshots may be shadowed with different bytes. -/
theorem setPrev (v v' : RegFile) : (s.setPrev v).SamePins (s'.setPrev v') := { h with }

theorem storeRf (off : Offset) (v : Byte) : (s.storeRf off v).SamePins (s'.storeRf off v) :=
  { h with rfMask := lampMask_write_congr h.rfMask off v }

theorem refresh : (s.setCur s.rf).SamePins (s'.setCur s'.rf) := { h with curMask := h.rfMask }

theorem remember : (s.setPbtn s.btn).SamePins (s'.setPbtn s'.btn) := { h with pbtn := h.btn }

theorem setBank (k : Fin 5) (v : Byte) : (s.setBank k v).SamePins (s'.setBank k v) :=
  { h with btn := congrArg (·.set k v) h.btn }

theorem setLine (k : Fin 5) (x : SelectState) : (s.setLine k x).SamePins (s'.setLine k x) :=
  { h with sel := congrArg (·.set k x) h.sel }

theorem consume : s.consume.SamePins s'.consume := { h with agenda := congrArg List.tail h.agenda }

theorem panelChange (k : Fin 5) (closed : Option Contacts) :
    (s.panelChange k closed).SamePins (s'.panelChange k closed) :=
  { h with contacts := congrArg (·.set k closed) h.contacts }

theorem resetBlock : s.resetBlock.SamePins s'.resetBlock where
  rfMask _ := rfl
  curMask _ := rfl
  btn := rfl
  pbtn := rfl
  rc := rfl
  bc := rfl
  irq := rfl
  w := rfl
  sel := rfl
  seq := rfl
  contacts := h.contacts
  senseDraws := h.senseDraws
  agenda := h.agenda

theorem fixedLevels : s.fixedLevels = s'.fixedLevels := by
  unfold State.fixedLevels
  rw [h.sel, h.contacts]

theorem senseLevels : s.senseLevels = s'.senseLevels := by
  unfold State.senseLevels
  rw [h.fixedLevels, h.senseDraws]

theorem afterSense : s.afterSense.SamePins s'.afterSense := by
  unfold State.afterSense
  rw [h.fixedLevels]
  split
  · exact h
  · exact { h with senseDraws := congrArg (· + 1) h.senseDraws }

theorem pending : s.pending = s'.pending := by
  unfold State.pending
  rw [h.agenda]

theorem fetch : s.fetch = s'.fetch := fetch_congr h.pending h.seq

/-- Every operation answers on both sides, and keeps the pins the same. -/
theorem exec (i : Instr) :
    ∃ t t', Machine.exec i s = .next t ∧ Machine.exec i s' = .next t' ∧ t.SamePins t' := by
  cases i using Instr.byFamily with
  | hwb off val => exact ⟨_, _, rfl, rfl, h.storeRf off val⟩
  | hwc off len => exact ⟨_, _, rfl, rfl, h.setRc true⟩
  | hrd off unused =>
    obtain ⟨v, d, run, -⟩ := execHrd_cases off unused s
    obtain ⟨v', d', run', -⟩ := execHrd_cases off unused s'
    exact ⟨_, _, run, run', { h with bc := congrArg (· || isBankOffset off) h.bc }⟩
  | rfsh =>
    by_cases c : s.rc = true
    · exact ⟨_, _, if_pos c, if_pos (h.rc ▸ c), h.refresh.setSeq 1⟩
    · exact ⟨_, _, if_neg c, if_neg (h.rc ▸ c), h.setSeq 2⟩
  | rfcl => exact ⟨_, _, rfl, rfl, (h.setRc false).setSeq 2⟩
  | ack =>
    by_cases c : s.bc = true
    · exact ⟨_, _, if_pos c, if_pos (h.bc ▸ c), (h.setIrq .deasserted).setSeq 3⟩
    · exact ⟨_, _, if_neg c, if_neg (h.bc ▸ c), h.setSeq 4⟩
  | ackcl => exact ⟨_, _, rfl, rfl, (h.setBc false).setSeq 4⟩
  | lampOn i =>
    rw [exec_lon, exec_lon]
    by_cases c : (lampMask s.cur).getLsbD i.val = true
    · exact ⟨_, _, if_pos c, if_pos (h.curMask i ▸ c), (h.setW _).setSeq _⟩
    · exact ⟨_, _, if_neg c, if_neg (h.curMask i ▸ c), h.setSeq _⟩
  | lampOff i => exact ⟨_, _, exec_loff i s, exec_loff i s', (h.setW allFloat).setSeq _⟩
  | lend => exact ⟨_, _, rfl, rfl, (h.setW allFloat).setSeq 45⟩
  | ver0 => exact ⟨_, _, rfl, rfl, (h.storeRf 0 versionLow).setSeq 46⟩
  | ver1 => exact ⟨_, _, rfl, rfl, (h.storeRf 1 versionHigh).setSeq 47⟩
  | select k => exact ⟨_, _, exec_sela k s, exec_sela k s', (h.setLine k .active).setSeq _⟩
  | sample k =>
    refine ⟨_, _, exec_samp k s, exec_samp k s', ?_⟩
    rw [h.senseLevels]
    exact (h.afterSense.setBank k _).setSeq _
  | deselect k => exact ⟨_, _, exec_seli k s, exec_seli k s', (h.setLine k .idle).setSeq _⟩
  | bcmp =>
    have changed := snapshotChanged_congr s s' h.btn h.pbtn
    by_cases c : s.snapshotChanged = true
    · exact ⟨_, _, if_pos c, if_pos (changed ▸ c), h.setSeq 63⟩
    · exact ⟨_, _, if_neg c, if_neg (changed ▸ c), h.setSeq 69⟩
  | writeBank k =>
    refine ⟨_, _, exec_bwr k s, exec_bwr k s', ?_⟩
    rw [h.btn]
    exact (h.storeRf (bankOffset k) _).setSeq _
  | irqa => exact ⟨_, _, rfl, rfl, (h.setIrq .asserted).setSeq 69⟩
  | pbup => exact ⟨_, _, rfl, rfl, h.remember.setSeq 70⟩
  | shdw => exact ⟨_, _, rfl, rfl, (h.setPrev s.cur s'.cur).setSeq 0⟩

end Sys2Proof.Machine.State.SamePins

namespace Sys2Proof.Machine

/-- Settles O50: both states run the same operation, which keeps the pins the same (`State.SamePins.exec`), or both take
the same panel change or reset. -/
theorem ignoredBitsNeverReachAPin : Obligations.IgnoredBitsNeverReachAPin := by
  intro s s' t same answers
  rcases step_next_cases answers with ⟨i, d, run⟩ | ⟨k, closed, next, rfl⟩ | ⟨next, rfl⟩
  · obtain ⟨u, t', run₁, run', kept⟩ := same.consume.exec i
    obtain rfl : u = t := Host.Outcome.next.inj (run₁.symm.trans run)
    exact ⟨t', (step_of_decode (same.fetch ▸ d)).trans run', kept⟩
  · exact ⟨_, step_of_panel s' k closed (same.pending ▸ next), same.consume.panelChange k closed⟩
  · exact ⟨_, step_of_rst s' (same.pending ▸ next), same.consume.resetBlock⟩

end Sys2Proof.Machine
end

section
/-! SUPPORT. The statements about single fields: the two multi-byte fields of `RF`, what the Loop agent leaves alone, who
writes the two snapshots, the ports and the reset values. -/

namespace Sys2Proof

/-- The byte read at an offset is the file's entry of that index. -/
theorem RegFile.getElem_of_read {m : RegFile} {n : Nat} {v : Byte} (lt : n < 255)
    (h : m.read (BitVec.ofNat 8 n) = some v) : m[n] = v := by
  have index : (BitVec.ofNat 8 n).toNat = n := by simp only [BitVec.toNat_ofNat]; omega
  rw [RegFile.read_of_lt m _ (by omega)] at h
  simpa only [index, Option.some.injEq] using h

/-- A file of zeros reads as zero wherever it holds a byte. -/
theorem RegFile.read_zeros {off : Offset} {v : Byte} (h : RegFile.read (Vector.replicate 255 0) off = some v) :
    v = 0 := by
  by_cases lt : off.toNat < 255
  · rw [RegFile.read_of_lt _ off lt, Vector.getElem_replicate] at h
    exact (Option.some.inj h).symm
  · rw [RegFile.read_outside _ off lt] at h
    cases h

/-- Writing both version bytes makes the version field `FW_VERSION`, whatever it was (R106). -/
theorem versionField_write_version (m : RegFile) :
    versionField ((m.write 0 versionLow).write 1 versionHigh) = Config.fwVersion := by
  simp only [versionField, RegFile.write_getElem]
  exact BitVec.extractLsb'_append_extractLsb' (w := 8) (len := 8)

/-- A line that is not `Active` is `Idle`. -/
theorem SelectState.eq_idle (x : SelectState) : (x == .idle) = (x != .active) := by cases x <;> rfl

/-- Settles O7: `lampMask_getLsbD` and `versionField_getLsbD`, with the byte as a read gives it. -/
theorem fieldsAreLittleEndian : Obligations.FieldsAreLittleEndian := by
  refine ⟨fun m i v byte => ?_, fun m i v byte => ?_⟩
  · rw [lampMask_getLsbD, RegFile.getElem_of_read (by omega) byte]
  · rw [versionField_getLsbD, RegFile.getElem_of_read (by omega) byte]

end Sys2Proof

namespace Sys2Proof.Machine

/-! ## The Loop agent's own -/

/-- What a step of the Loop agent from `s` to `t` leaves alone (R27, R28, R39, R126). -/
structure LoopFrame (s t : State) : Prop where
  rc : t.rc = true → s.rc = true
  bc : t.bc = true → s.bc = true
  others : ∀ a : Offset, 2 ≤ a.toNat ∧ a.toNat < 8 ∨ 12 < a.toNat → t.rf.read a = s.rf.read a
  undisturbed : t.rf ≠ s.rf → t.rc = s.rc
  hrdData : t.hrdData = s.hrdData
  contacts : t.contacts = s.contacts

/-- A step that writes no byte of `RF` and sets no flag. -/
theorem LoopFrame.of_rf_eq {s t : State} (rf : t.rf = s.rf) (rc : t.rc = true → s.rc = true)
    (bc : t.bc = true → s.bc = true) (hrdData : t.hrdData = s.hrdData) (contacts : t.contacts = s.contacts) :
    LoopFrame s t :=
  ⟨rc, bc, fun _ _ => rf ▸ rfl, fun ne => absurd rf ne, hrdData, contacts⟩

/-- A step that writes one version or bank byte and the position. -/
theorem LoopFrame.of_store (s : State) {off : Offset} (own : off.toNat < 2 ∨ 8 ≤ off.toNat ∧ off.toNat ≤ 12) (v : Byte)
    (p : SeqPos) : LoopFrame s ((s.consume.storeRf off v).setSeq p) where
  rc := id
  bc := id
  others a other := s.rf.read_write_other off a v (by rintro rfl; omega)
  undisturbed _ := rfl
  hrdData := rfl
  contacts := rfl

/-- Every step of the Loop agent has this frame: by its micro-operation, in the order of `step_loop_cases`. Only `VER0`,
`VER1` and `BWR(k)` store a byte, only `RFCL` and `ACKCL` write a flag, and they clear it. -/
theorem loopFrame_of_step {s t : State} (next : s.pending = .loop) (answers : step s = .next t) : LoopFrame s t := by
  rcases step_loop_cases s next with ⟨-, run⟩ | ⟨-, run⟩ | ⟨-, run⟩ | ⟨-, run⟩ | ⟨i, -, run⟩ | ⟨i, -, run⟩ | ⟨-, run⟩ |
    ⟨-, run⟩ | ⟨-, run⟩ | ⟨k, -, run⟩ | ⟨k, -, run⟩ | ⟨k, -, run⟩ | ⟨-, run⟩ | ⟨k, -, run⟩ | ⟨-, run⟩ | ⟨-, run⟩ |
    ⟨-, run⟩ <;> rw [run] at answers
  · unfold execRfsh at answers
    split at answers <;> cases answers <;> exact .of_rf_eq rfl id id rfl rfl
  · cases answers; exact .of_rf_eq rfl nofun id rfl rfl
  · unfold execAck at answers
    split at answers <;> cases answers <;> exact .of_rf_eq rfl id id rfl rfl
  · cases answers; exact .of_rf_eq rfl id nofun rfl rfl
  · unfold lampOn at answers
    split at answers <;> cases answers <;> exact .of_rf_eq rfl id id rfl rfl
  · cases answers; exact .of_rf_eq rfl id id rfl rfl
  · cases answers; exact .of_rf_eq rfl id id rfl rfl
  · cases answers; exact .of_store s (by decide) versionLow 46
  · cases answers; exact .of_store s (by decide) versionHigh 47
  · cases answers; exact .of_rf_eq rfl id id rfl rfl
  · obtain ⟨d, after⟩ := afterSense_eq s.consume
    simp only [sampleBank, after] at answers
    cases answers; exact .of_rf_eq rfl id id rfl rfl
  · cases answers; exact .of_rf_eq rfl id id rfl rfl
  · unfold execBcmp at answers
    split at answers <;> cases answers <;> exact .of_rf_eq rfl id id rfl rfl
  · have own : 8 ≤ (bankOffset k).toNat ∧ (bankOffset k).toNat ≤ 12 := by
      rw [bankOffset_toNat, show Config.btnBase = 8 from rfl]; omega
    cases answers; exact .of_store s (.inr own) s.btn[k] _
  · cases answers; exact .of_rf_eq rfl id id rfl rfl
  · cases answers; exact .of_rf_eq rfl id id rfl rfl
  · cases answers; exact .of_rf_eq rfl id id rfl rfl

/-- Settles O44: the frame of a Loop step. -/
theorem loopStepsTouchOnlyTheirOwn : Obligations.LoopStepsTouchOnlyTheirOwn := by
  intro s t next answers
  obtain ⟨rc, bc, others, undisturbed, hrdData, contacts⟩ := loopFrame_of_step next answers
  exact ⟨rc, bc, others, undisturbed, hrdData, contacts⟩

/-! ## The two snapshots -/

/-- `RFSH` alone writes `CUR`, with `RF`, and only when it finds `RC` = 1 (R24, R120). -/
theorem exec_cur {i : Instr} {s t : State} (run : exec i s = .next t) :
    t.cur = s.cur ∨ i = .rfsh ∧ s.rc = true ∧ t.cur = s.rf := by
  cases i using Instr.byFamily with
  | hrd off unused =>
    obtain ⟨v, d, read, -⟩ := execHrd_cases off unused s
    cases read.symm.trans run; exact .inl rfl
  | rfsh =>
    simp only [exec, execRfsh] at run
    split at run <;> cases run
    · exact .inr ⟨rfl, ‹_›, rfl⟩
    · exact .inl rfl
  | ack =>
    simp only [exec, execAck] at run
    split at run <;> cases run <;> exact .inl rfl
  | lampOn i =>
    rw [exec_lon, lampOn] at run
    split at run <;> cases run <;> exact .inl rfl
  | sample k =>
    obtain ⟨d, after⟩ := afterSense_eq s
    rw [exec_samp, sampleBank, after] at run
    cases run; exact .inl rfl
  | bcmp =>
    simp only [exec, execBcmp] at run
    split at run <;> cases run <;> exact .inl rfl
  | lampOff i => rw [exec_loff] at run; cases run; exact .inl rfl
  | select k => rw [exec_sela] at run; cases run; exact .inl rfl
  | deselect k => rw [exec_seli] at run; cases run; exact .inl rfl
  | writeBank k => rw [exec_bwr] at run; cases run; exact .inl rfl
  | hwb | hwc | rfcl | ackcl | lend | ver0 | ver1 | irqa | pbup | shdw => cases run; exact .inl rfl

/-- Settles O45: `exec_cur`, with the one Loop step that runs `RFSH`. -/
theorem snapshotChangesOnlyAtRefresh : Obligations.SnapshotChangesOnlyAtRefresh := by
  intro s t answers
  rcases step_next_cases answers with ⟨i, d, run⟩ | ⟨k, closed, -, rfl⟩ | ⟨next, rfl⟩
  · rcases exec_cur run with kept | ⟨rfl, changed, copied⟩
    · exact .inl kept
    · obtain ⟨next, zero⟩ := position_of_decode (p := 0) d rfl
      exact .inr (.inl ⟨next, congrArg Fin.val zero, changed, copied⟩)
  · exact .inl rfl
  · exact .inr (.inr ⟨next, rfl⟩)

/-- A branch whose two sides each ignore `PREV` ignores it. -/
theorem ite_setPrev {c : Prop} [Decidable c] {a b t : State} (p : RegFile)
    (run : (if c then .next a else .next b : Host.Outcome State Fault Refusal) = .next t) :
    (if c then .next (a.setPrev p) else .next (b.setPrev p) : Host.Outcome State Fault Refusal) =
      .next (t.setPrev p) := by
  split at run <;> rename_i h <;> cases run
  · exact if_pos h
  · exact if_neg h

/-- Reading the sense lines does not involve `PREV`. -/
theorem afterSense_setPrev (s : State) (p : RegFile) : (s.setPrev p).afterSense = s.afterSense.setPrev p := by
  unfold State.afterSense
  rw [show (s.setPrev p).fixedLevels = s.fixedLevels from rfl]
  cases s.fixedLevels <;> rfl

/-- No operation reads `PREV`, and none but `SHDW` writes it (R25). -/
theorem exec_setPrev {i : Instr} {s t : State} (p : RegFile) (other : i ≠ .shdw) (run : exec i s = .next t) :
    exec i (s.setPrev p) = .next (t.setPrev p) := by
  cases i using Instr.byFamily with
  | hrd off unused =>
    simp only [exec, execHrd, State.setPrev_rf] at run ⊢
    split at run <;> cases run <;> rfl
  | rfsh => exact ite_setPrev p run
  | ack => exact ite_setPrev p run
  | lampOn i =>
    rw [exec_lon] at run ⊢
    exact ite_setPrev p run
  | sample k =>
    rw [exec_samp, sampleBank] at run ⊢
    rw [afterSense_setPrev]
    cases run; rfl
  | bcmp => exact ite_setPrev p run
  | shdw => exact absurd rfl other
  | lampOff i => rw [exec_loff] at run ⊢; cases run; rfl
  | select k => rw [exec_sela] at run ⊢; cases run; rfl
  | deselect k => rw [exec_seli] at run ⊢; cases run; rfl
  | writeBank k => rw [exec_bwr] at run ⊢; cases run; rfl
  | hwb | hwc | rfcl | ackcl | lend | ver0 | ver1 | irqa | pbup => cases run; rfl

/-- Settles O49: `SHDW` stands next exactly in a Loop step at position 70, and every other operation is `exec_setPrev`. -/
theorem nothingReadsThePreviousSnapshot : Obligations.NothingReadsThePreviousSnapshot := by
  refine ⟨fun s t p answers => ?_, fun off v byte => RegFile.read_zeros byte⟩
  rcases step_next_cases answers with ⟨i, d, run⟩ | ⟨k, closed, next, rfl⟩ | ⟨next, rfl⟩
  · rw [show step { s with prev := p } = exec i (s.consume.setPrev p) from step_of_decode (s := s.setPrev p) d]
    by_cases shadow : i = .shdw
    · subst shadow
      obtain ⟨next, last⟩ := position_of_decode (p := 70) d rfl
      rw [if_pos ⟨next, congrArg Fin.val last⟩]
      cases run; rfl
    · have notShadow : ¬ (s.pending = .loop ∧ s.seq.val = 70) := by
        rintro ⟨next, last⟩
        rw [fetch_of_loop next, last] at d
        exact shadow (Except.ok.inj d).symm
      have notReset : s.pending ≠ .rst := fun next => decode_nil_ne_ok i (fetch_of_rst next ▸ d)
      rw [if_neg notShadow, if_neg notReset]
      exact exec_setPrev p shadow run
  · rw [next, if_neg nofun, if_neg nofun]
    exact step_of_panel (s.setPrev p) k closed next
  · rw [next, if_neg nofun, if_pos rfl]
    exact step_of_rst (s.setPrev p) next

/-! ## Phase 4 -/

/-- With nothing on the agenda there is nothing to take from it. -/
theorem consume_of_agenda_nil {s : State} (h : s.agenda = []) : s.consume = s := by
  unfold State.consume
  rw [h, List.tail_nil, ← h]
  rfl

/-- Undisturbed, the Loop agent runs the micro-operation at its position. -/
theorem step_of_position {s : State} {i : Instr} (quiet : s.agenda = [])
    (d : decodePosition (BitVec.ofNat 8 s.seq.val) = .ok i) : step s = exec i s := by
  rw [step_of_loop s i (pending_of_agenda_nil quiet) d, consume_of_agenda_nil quiet]

/-- Settles O55: `VER0` and `VER1` write the two bytes of the field (`versionField_write_version`). -/
theorem versionFieldIsRestored : Obligations.VersionFieldIsRestored := by
  intro s quiet start
  have low : step s = .next ((s.storeRf 0 versionLow).setSeq 46) := 
    step_of_position (i := .ver0) quiet (by rw [start]; rfl)
  have high : step ((s.storeRf 0 versionLow).setSeq 46) =
      .next ((((s.storeRf 0 versionLow).setSeq 46).storeRf 1 versionHigh).setSeq 47) :=
    step_of_position (i := .ver1) quiet rfl
  refine ⟨(s.rf.write 0 versionLow).write 1 versionHigh, ?_, versionField_write_version s.rf, fun a above => ?_⟩
  · rw [runSteps_succ 1 _ _ low, runSteps_succ 0 _ _ high]
    rfl
  · rw [RegFile.read_write_other _ _ _ _ (by rintro rfl; exact absurd above (by decide)),
      RegFile.read_write_other _ _ _ _ (by rintro rfl; exact absurd above (by decide))]

/-! ## Ports and reset -/

/-- Settles O12: each port is five bits of the wires or lines, bit `p` from number `p` (`fiveBits_getLsbD`). -/
theorem portsShowTheLatches : Obligations.PortsShowTheLatches := by
  intro s p
  refine ⟨?_, ?_, ?_, rfl⟩
  · rw [State.lampOe, patternOE, fiveBits_getLsbD, WireState.oe_eq]
  · rw [State.lampDo, patternDO, fiveBits_getLsbD, WireState.level_eq]
  · rw [State.selPort, fiveBits_getLsbD, SelectState.eq_idle]

/-- The Register File after reset: zeros with the two version bytes written (R55). -/
theorem reset_rf : State.reset.rf =
    (RegFile.write (Vector.replicate 255 0) 0 versionLow).write 1 versionHigh := rfl

/-- Settles O36: the files byte by byte, the other elements by their definition. -/
theorem resetValuesOfTheBlock : Obligations.ResetValuesOfTheBlock := by
  refine ⟨fun off v byte => ?_, fun off v byte => byte.elim RegFile.read_zeros RegFile.read_zeros, fun k => ?_,
    rfl, rfl, rfl, rfl, fun s h => step_of_rst s (pending_of_head? h)⟩
  · rw [reset_rf] at byte
    by_cases high : off = 1
    · subst high
      rw [RegFile.read_write_same _ _ _ (by decide)] at byte
      exact (Option.some.inj byte).symm
    · rw [RegFile.read_write_other _ _ _ _ high] at byte
      by_cases low : off = 0
      · subst low
        rw [RegFile.read_write_same _ _ _ (by decide)] at byte
        exact (Option.some.inj byte).symm
      · rw [RegFile.read_write_other _ _ _ _ low] at byte
        rw [if_neg low, if_neg high]
        exact RegFile.read_zeros byte
  · exact ⟨Vector.getElem_replicate .., Vector.getElem_replicate .., Vector.getElem_replicate ..,
      Vector.getElem_replicate ..⟩

/-- After reset every bank register is zero. -/
theorem reset_rf_bank (k : Fin 5) : State.reset.rf[8 + k.val] = 0 := by
  have low : (0 : Offset).toNat ≠ 8 + k.val := show 0 ≠ 8 + k.val by omega
  have high : (1 : Offset).toNat ≠ 8 + k.val := show 1 ≠ 8 + k.val by omega
  rw [reset_rf, RegFile.write_getElem, RegFile.write_getElem, if_neg high, if_neg low, Vector.getElem_replicate]

/-- Every clause of the invariant speaks of a position other than 0, or is met by the reset values (R55). -/
theorem reset_inv : State.reset.Inv where
  wires := (heldPattern_of_dark 0 (.inl (by decide))).symm
  requested i held := by rw [show heldLamp State.reset.seq = none from rfl] at held; cases held
  lines k := by
    rw [show State.reset.sel[k] = .idle from Vector.getElem_replicate ..]
    have start : State.reset.seq.val = 0 := rfl
    exact ⟨nofun, fun held => by unfold bankHeld at held; omega⟩
  banks := by decide
  changeSeen := nofun
  readSeen := nofun
  differs := nofun
  settled _ := rfl
  announced := nofun
  shadow _ := rfl

/-- Settles O39: `reset_inv`; at position 0 no bank has been written back, and both sides are zero. -/
theorem invariantsHoldAfterReset : Obligations.InvariantsHoldAfterReset := by
  refine ⟨reset_inv, fun k => ?_⟩
  have start : State.reset.seq.val = 0 := rfl
  rw [reset_rf_bank, start, if_neg (by omega)]
  exact (Vector.getElem_replicate ..).symm

end Sys2Proof.Machine
end

section
/-! SUPPORT. The statements about the register-offset space: one byte of it (R60, R66, R70), the bank registers when the
line rises (R72), and a whole bus write (R65, R213). -/

namespace Sys2Proof

/-- Every offset but 255 is inside the file. -/
theorem Offset.toNat_lt_iff (off : Offset) : off.toNat < 255 ↔ off ≠ 255 := by
  rw [Ne, ← BitVec.toNat_inj, show (255 : Offset).toNat = 255 from rfl]
  have := off.isLt
  omega

/-- A number inside the file, as an offset, is itself. -/
theorem Offset.toNat_ofNat_of_lt {n : Nat} (lt : n < 255) : (BitVec.ofNat 8 n : Offset).toNat = n := by
  simp only [BitVec.toNat_ofNat]
  omega

/-- The entry of an index is what a read of that offset returns. -/
theorem RegFile.read_ofNat (m : RegFile) {n : Nat} (lt : n < 255) : m.read (BitVec.ofNat 8 n) = some m[n] := by
  have index := Offset.toNat_ofNat_of_lt lt
  rw [RegFile.read_of_lt m _ (by omega)]
  simp only [index]

/-- Settles O6: the laws of `RegFile.read` and `RegFile.write`, by whether the offset is inside the file. -/
theorem storeThenReadOfOneByte : Obligations.StoreThenReadOfOneByte := by
  intro m off a v
  refine ⟨⟨fun empty => ?_, ?_⟩, fun inside => ?_, ?_⟩
  · by_contra inside
    rw [RegFile.read_of_lt m off (off.toNat_lt_iff.mpr inside)] at empty
    cases empty
  · rintro rfl
    exact RegFile.read_outside m 255 (by decide)
  · exact RegFile.read_write_same m off v (off.toNat_lt_iff.mpr inside)
  · rintro (other | rfl)
    · exact RegFile.read_write_other m off a v other
    · rw [RegFile.write_outside m 255 v (by decide)]

/-! ## A whole bus write -/

/-- The file with `bytes` stored at ascending offsets from `off` on, those beyond offset 254 dropped: what the words
`landingWords off bytes` leave (`runSteps_landingWords`). -/
def RegFile.writeFrom (m : RegFile) (off : Nat) (bytes : List Byte) : RegFile :=
  match bytes with
  | [] => m
  | b :: rest => if off < 255 then (m.write (BitVec.ofNat 8 off) b).writeFrom (off + 1) rest else m

/-- Inside the range an offset holds its byte, outside it what was there. -/
theorem RegFile.read_writeFrom (m : RegFile) (off : Nat) (bytes : List Byte) (a : Offset) (inside : a.toNat < 255) :
    (m.writeFrom off bytes).read a =
      if off ≤ a.toNat ∧ a.toNat < off + bytes.length then bytes[a.toNat - off]? else m.read a := by
  induction bytes generalizing m off with
  | nil =>
    rw [if_neg (by simp only [List.length_nil]; omega)]
    rfl
  | cons b rest ih =>
    rw [RegFile.writeFrom, List.length_cons]
    split
    next room =>
      have index := Offset.toNat_ofNat_of_lt room
      rw [ih]
      rcases Nat.lt_trichotomy a.toNat off with before | here | after
      · rw [if_neg (by omega), if_neg (by omega), RegFile.read_write_other _ _ _ _ (by rintro rfl; omega)]
      · obtain rfl : a = BitVec.ofNat 8 off := BitVec.eq_of_toNat_eq (here.trans index.symm)
        rw [if_neg (by omega), if_pos (by omega), RegFile.read_write_same _ _ _ inside, index, Nat.sub_self]
        rfl
      · rw [RegFile.read_write_other _ _ _ _ (by rintro rfl; omega),
          show a.toNat - off = a.toNat - (off + 1) + 1 by omega, List.getElem?_cons_succ]
        exact if_congr (by omega) rfl rfl
    next => rw [if_neg (by omega)]

end Sys2Proof

namespace Sys2Proof.Machine

/-- A byte that is delivered next lands (R210). -/
theorem step_of_hwb {s : State} {off : Offset} {val : Byte} {rest : List Stimulus}
    (next : s.agenda = .host (eventWord 0 off val) :: rest) :
    step s = .next { s with rf := s.rf.write off val, agenda := rest } := by
  rw [step_of_host s _ (.hwb off val) (by rw [State.pending, next]) (decodeEvent_eventWord 0 off val)]
  show Host.Outcome.next ((s.setAgenda s.agenda.tail).storeRf off val) = _
  rw [next]
  rfl

/-- A completion that is delivered next sets `RC` (R211). -/
theorem step_of_hwc {s : State} {off : Offset} {len : Byte} {rest : List Stimulus}
    (next : s.agenda = .host (eventWord 1 off len) :: rest) :
    step s = .next { s with rc := true, agenda := rest } := by
  rw [step_of_host s _ (.hwc off len) (by rw [State.pending, next]) (decodeEvent_eventWord 1 off len)]
  show Host.Outcome.next (s.setAgenda s.agenda.tail).noteWriteCompleted = _
  rw [next]
  rfl

/-- The byte words of a bus write store its bytes, and take themselves off the agenda (R213). -/
theorem runSteps_landingWords {s : State} {off : Nat} {bytes : List Byte} {rest : List Stimulus}
    (next : s.agenda = (landingWords off bytes).map .host ++ rest) :
    runSteps (landingWords off bytes).length s = .next { s with rf := s.rf.writeFrom off bytes, agenda := rest } := by
  induction bytes generalizing s off with
  | nil =>
    obtain rfl : s.agenda = rest := next
    rfl
  | cons b bytes ih =>
    rw [landingWords] at next ⊢
    rw [RegFile.writeFrom]
    split at next <;> rename_i room
    · rw [if_pos room, if_pos room, List.length_cons, runSteps_succ _ _ _ (step_of_hwb next)]
      exact ih rfl
    · rw [if_neg room, if_neg room]
      obtain rfl : s.agenda = rest := next
      rfl

/-- Settles O57: the byte words store the bytes (`runSteps_landingWords`), the completion sets `RC`, and the file is read
back by `RegFile.read_writeFrom`. -/
theorem busWriteLandsInOrder : Obligations.BusWriteLandsInOrder := by
  intro s off bytes next
  refine ⟨s.rf.writeFrom off bytes, ?_, fun a inside =>
    RegFile.read_writeFrom s.rf off bytes a (a.toNat_lt_iff.mpr inside)⟩
  rw [writeTransaction, List.map_append] at next
  rw [writeTransaction, List.length_append, runSteps_add _ _ _ _ (runSteps_landingWords next)]
  exact runSteps_succ 0 _ _ (step_of_hwc rfl)

/-! ## The bank registers when the line rises -/

/-- Settles O48: past `BWR(4)` every bank has been written back (`banksTrack`), the write-back is reached only on a
difference (`Inv.differs`), and `IRQA` asserts the line and touches neither. -/
theorem banksAreWrittenBeforeTheLineRises : Obligations.BanksAreWrittenBeforeTheLineRises := by
  intro s t inv track next position answers
  have run : step s = .next (s.consume.assertIrq.setSeq 69) :=
    step_of_loop s .irqa next (by rw [position]; rfl)
  obtain rfl := Host.Outcome.next.inj (run.symm.trans answers)
  have changed : s.snapshotChanged = true := inv.differs (by omega) (by omega)
  refine ⟨rfl, fun k => ?_, of_decide_eq_true changed⟩
  have written : s.rf[8 + k.val] = s.btn[k] := by rw [track k, if_pos (by omega)]
  exact (RegFile.read_ofNat s.rf (by omega)).trans (congrArg some written)

end Sys2Proof.Machine
end

section
/-! SUPPORT. The statements about the encodings: the decoder and the encoder are inverse to each other (R96, R101), what
each rejects (R102), the opcode-table words as the machine runs them, the wire pattern word (R95), the bank byte (R99). -/

namespace Sys2Proof

/-! ## The positions of the map -/

theorem encode_lon : ∀ i : Fin 20, encode (lon i) = [BitVec.ofNat 8 (4 + 2 * i.val)] := by decide

theorem encode_loff : ∀ i : Fin 20, encode (loff i) = [BitVec.ofNat 8 (5 + 2 * i.val)] := by decide

theorem encode_sela : ∀ k : Fin 5, encode (sela k) = [BitVec.ofNat 8 (47 + 3 * k.val)] := by decide

theorem encode_samp : ∀ k : Fin 5, encode (samp k) = [BitVec.ofNat 8 (48 + 3 * k.val)] := by decide

theorem encode_seli : ∀ k : Fin 5, encode (seli k) = [BitVec.ofNat 8 (49 + 3 * k.val)] := by decide

theorem encode_bwr : ∀ k : Fin 5, encode (bwr k) = [BitVec.ofNat 8 (63 + k.val)] := by decide

/-- Settles O4: the operations are those of `Instr.byFamily`, the positions those of the `encode` lemmas of the six
indexed families. -/
theorem operationsAreTheTwentyOfTheMap : Obligations.OperationsAreTheTwentyOfTheMap := by
  refine ⟨fun x => ?_, fun i => ⟨encode_lon i, encode_loff i⟩,
    fun k => ⟨encode_sela k, encode_samp k, encode_seli k, encode_bwr k⟩⟩
  cases x using Instr.byFamily with
  | hwb off val => exact .inl ⟨off, val, rfl⟩
  | hwc off len => exact .inr (.inl ⟨off, len, rfl⟩)
  | hrd off unused => exact .inr (.inr (.inl ⟨off, unused, rfl⟩))
  | _ => simp

/-! ## The decoder inverts the encoder -/

theorem decode_encode_lon : ∀ i : Fin 20, decode (encode (lon i)) = .ok (lon i) := by decide

theorem decode_encode_loff : ∀ i : Fin 20, decode (encode (loff i)) = .ok (loff i) := by decide

theorem decode_encode_sela : ∀ k : Fin 5, decode (encode (sela k)) = .ok (sela k) := by decide

theorem decode_encode_samp : ∀ k : Fin 5, decode (encode (samp k)) = .ok (samp k) := by decide

theorem decode_encode_seli : ∀ k : Fin 5, decode (encode (seli k)) = .ok (seli k) := by decide

theorem decode_encode_bwr : ∀ k : Fin 5, decode (encode (bwr k)) = .ok (bwr k) := by decide

/-- Settles O1, family by family: the events by their fields (`Laws.RoundTrip.hwb`, `hwc`, `hrd`), the micro-operations
by their positions in the table of R101. -/
theorem decodeOfEncodeIsTheOperation : Obligations.DecodeOfEncodeIsTheOperation := by
  intro x
  cases x using Instr.byFamily with
  | hwb off val => exact Laws.RoundTrip.hwb off val
  | hwc off len => exact Laws.RoundTrip.hwc off len
  | hrd off unused => exact Laws.RoundTrip.hrd off unused
  | lampOn i => exact decode_encode_lon i
  | lampOff i => exact decode_encode_loff i
  | select k => exact decode_encode_sela k
  | sample k => exact decode_encode_samp k
  | deselect k => exact decode_encode_seli k
  | writeBank k => exact decode_encode_bwr k
  | _ => rfl

/-! ## What the decoder accepts -/

/-- The three bytes of an event word are its fields, `b` first (R96). -/
theorem eventBytes_eventWord (kind : BitVec 2) (a b : Byte) : eventBytes (eventWord kind a b) = [b, a, kind.setWidth 8] := by
  simp only [eventBytes, kind_eventWord, a_eventWord, b_eventWord]

/-- A position above 70 has no entry in the table (R101, R102). -/
theorem decodePosition_reserved {p : Byte} (above : 71 ≤ p.toNat) : decodePosition p = .error .reservedPosition := by
  have none : sequence[p.toNat]? = none := List.getElem?_eq_none above
  simp only [decodePosition, none]

/-- A byte that is read as a micro-operation is one of the 71 positions (R101). -/
theorem position_of_decodePosition {p : Byte} {i : Instr} (read : decodePosition p = .ok i) :
    ∃ q : SeqPos, p = BitVec.ofNat 8 q.val := by
  have lt : p.toNat < 71 := by
    by_contra above
    rw [decodePosition_reserved (by omega)] at read
    cases read
  exact ⟨⟨p.toNat, lt⟩, by simp⟩

/-- A byte whose upper six bits are 0 is its lower two bits. -/
theorem setWidth_of_upper_zero {k : Byte} (upper : k.extractLsb' 2 6 = 0) : (k.extractLsb' 0 2).setWidth 8 = k := by
  revert k; decide

/-- What the decoder accepts: one of the 71 positions, or the three bytes of an event word. -/
theorem decode_ok_cases {bytes : List Byte} {i : Instr} (read : decode bytes = .ok i) :
    (∃ p : SeqPos, bytes = [BitVec.ofNat 8 p.val] ∧ decodePosition (BitVec.ofNat 8 p.val) = .ok i) ∨
    (∃ w : EventWord, bytes = eventBytes w ∧ decodeEvent w = .ok i) := by
  unfold decode at read
  split at read
  case h_1 p =>
    obtain ⟨q, rfl⟩ := position_of_decodePosition read
    exact .inl ⟨q, rfl, read⟩
  case h_2 b a k =>
    split at read
    case isTrue upper =>
      refine .inr ⟨_, ?_, read⟩
      exact ((eventBytes_eventWord (k.extractLsb' 0 2) a b).trans (by rw [setWidth_of_upper_zero upper])).symm
    case isFalse => cases read
  case h_3 => cases read

/-- An event word is made of the fields it is read into (R96). -/
theorem encode_of_decodeEvent {w : EventWord} {i : Instr} (read : decodeEvent w = .ok i) : encode i = eventBytes w := by
  obtain ⟨a, b, rfl, event⟩ | ⟨a, b, rfl, event⟩ | ⟨a, b, rfl, event⟩ | ⟨a, b, rfl, event⟩ := decodeEvent_cases w
  · cases event.symm.trans read; rfl
  · cases event.symm.trans read; rfl
  · cases event.symm.trans read; rfl
  · cases event.symm.trans read

/-- Settles O2: the bytes accepted are a position, which the table gives back (`encode_of_decodePosition`), or an event
word (`encode_of_decodeEvent`). -/
theorem encodeOfDecodeIsTheBytes : Obligations.EncodeOfDecodeIsTheBytes := by
  intro bytes i accepted
  obtain ⟨p, rfl, read⟩ | ⟨w, rfl, read⟩ := decode_ok_cases accepted
  · have code := encode_of_decodePosition p
    rw [read] at code
    exact Except.ok.inj code
  · exact encode_of_decodeEvent read

/-- Settles O3: the words are computed; the rejections are `decodePosition_reserved`, `decodeEvent_eventWord` and the
decoder's test of the upper six bits. -/
theorem wordsOfTheSpecDecode : Obligations.WordsOfTheSpecDecode := by
  refine ⟨by decide, by decide, by decide, by decide, rfl, rfl, rfl, rfl, rfl, rfl, rfl, rfl, rfl, ?_, ?_, ?_⟩
  · exact fun p above => decodePosition_reserved above
  · exact fun a b => (decode_eventBytes _).trans (decodeEvent_eventWord 3 a b)
  · exact fun b a k excess => if_neg excess

/-! ## The wire pattern word -/

/-- One wire comes back from its two bits (R95). -/
@[simp] theorem decodeWire_oe_level (x : WireState) : decodeWire x.oe x.level = x := by cases x <;> rfl

/-- Bit `5 + p` of the word is the output enable of wire `p` (R95). -/
theorem encodePattern_oe (w : WirePattern) (p : Fin 5) : (encodePattern w).getLsbD (5 + p.val) = w[p].oe := by
  simp only [encodePattern, BitVec.getLsbD_append]
  rw [if_neg (by omega), Nat.add_sub_cancel_left]
  exact fiveBits_getLsbD _ p

/-- Bit `p` of the word is the level of wire `p` (R95). -/
theorem encodePattern_level (w : WirePattern) (p : Fin 5) : (encodePattern w).getLsbD p.val = w[p].level := by
  simp only [encodePattern, BitVec.getLsbD_append]
  rw [if_pos p.isLt]
  exact fiveBits_getLsbD _ p

/-- Wire `p` of a word's pattern is read from bits `5 + p` and `p` (R95). -/
theorem decodePattern_getElem (x : BitVec 10) (p : Fin 5) :
    (decodePattern x)[p] = decodeWire (x.getLsbD (5 + p.val)) (x.getLsbD p.val) := by
  simp [decodePattern]

/-- Settles O5, wire by wire: the bits are `encodePattern_oe` and `encodePattern_level`, and `decodeWire` reads them back. -/
theorem wirePatternWordRoundTrip : Obligations.WirePatternWordRoundTrip := by
  refine ⟨fun w p => ?_, fun w => ?_, fun x p disabled => ?_⟩
  · rw [encodePattern_oe, encodePattern_level, WireState.oe_eq, WireState.level_eq]
    exact ⟨rfl, rfl⟩
  · refine Vector.ext fun p lt => (decodePattern_getElem (encodePattern w) ⟨p, lt⟩).trans ?_
    rw [encodePattern_oe, encodePattern_level, decodeWire_oe_level]
    rfl
  · rw [decodePattern_getElem, disabled]
    rfl

/-! ## The bank byte -/

/-- The mask of R99 keeps all three lines: the bank byte is the inverted levels, extended by zeros. -/
theorem bankByte_eq (levels : SenseLevels) : bankByte levels = (~~~ levels).setWidth 8 := by
  rw [bankByte, show (0b111#3) = BitVec.allOnes 3 from rfl, BitVec.and_allOnes]

/-- Settles O11, from `bankByte_eq`. -/
theorem bankByteInvertsAndMasks : Obligations.BankByteInvertsAndMasks := by
  intro levels
  rw [bankByte_eq]
  refine ⟨?_, fun j => ?_, ?_⟩
  · rw [BitVec.toNat_setWidth, BitVec.toNat_not]
    omega
  · simp [show j.val < 8 by omega]
  · ext i lt
    simp

/-! ## The opcode-table words -/

/-- A table word is read as an operation when the decoder reads it from its bytes and it fits in them. -/
theorem decodeTableWord_eq_some {nbits w : Nat} {i : Instr} (read : decodeTableWord nbits w = some i) :
    decode (tableBytes nbits w) = .ok i ∧ w < 2 ^ (if nbits ≤ 8 then 8 else 24) := by
  simp only [decodeTableWord] at read
  cases bytes : decode (tableBytes nbits w) with
  | error why => simp [bytes] at read
  | ok j =>
    rw [bytes] at read
    obtain ⟨fits, same⟩ := Option.ite_none_right_eq_some.mp read
    exact ⟨congrArg _ (Option.some.inj same), fits⟩

/-- A table word of format `SQ` that is read is one of the 71 positions (R101). -/
theorem position_of_decodeTableWord {w : Nat} {i : Instr} (read : decodeTableWord 8 w = some i) :
    w < 71 ∧ decodePosition (BitVec.ofNat 8 w) = .ok i := by
  obtain ⟨bytes, fits⟩ := decodeTableWord_eq_some read
  obtain ⟨q, same⟩ := position_of_decodePosition (p := BitVec.ofNat 8 w) bytes
  have fits : w < 256 := fits
  have same : w % 256 = q.val % 256 := congrArg BitVec.toNat same
  exact ⟨by omega, bytes⟩

/-- If the three bytes of a table word are those of an event word, its lower 18 bits are that word (log entry 11). -/
theorem eq_ofNat_of_eventBytes {w : Nat} {v : EventWord} (same : tableBytes 24 w = eventBytes v) :
    v = BitVec.ofNat 18 w := by
  obtain ⟨b, a, kind⟩ : BitVec.ofNat 8 w = v.extractLsb' 0 8 ∧ BitVec.ofNat 8 (w / 256) = v.extractLsb' 8 8 ∧
      BitVec.ofNat 8 (w / 65536) = (v.extractLsb' 16 2).setWidth 8 := by simpa [tableBytes, eventBytes] using same
  have b : w % 256 = v.toNat % 256 := by simpa using congrArg BitVec.toNat b
  have a : w / 256 % 256 = v.toNat / 256 % 256 := by
    simpa [Nat.shiftRight_eq_div_pow] using congrArg BitVec.toNat a
  have kind : w / 65536 % 256 = v.toNat / 65536 % 4 % 256 := by
    simpa [Nat.shiftRight_eq_div_pow] using congrArg BitVec.toNat kind
  bv_omega

/-- A table word of format `HE` that is read is an event word (R96). -/
theorem event_of_decodeTableWord {w : Nat} {i : Instr} (read : decodeTableWord 24 w = some i) :
    decodeEvent (BitVec.ofNat 18 w) = .ok i := by
  obtain ⟨bytes, -⟩ := decodeTableWord_eq_some read
  obtain ⟨p, short, -⟩ | ⟨v, same, event⟩ := decode_ok_cases bytes
  · cases congrArg List.length short
  · exact eq_ofNat_of_eventBytes same ▸ event

end Sys2Proof

namespace Sys2Proof.Machine

/-- A position goes to the sequencer, and the Loop agent is next (log entry 16). -/
theorem withFetchWord_position (s : State) (p : SeqPos) :
    s.withFetchWord 8 p.val = (s.setSeq p).setAgenda (.loop :: s.agenda) := by
  rw [State.withFetchWord, if_pos (by decide), dif_pos p.isLt]

/-- An event word is delivered next (log entry 16). -/
theorem withFetchWord_event (s : State) (w : Nat) :
    s.withFetchWord 24 w = s.setAgenda (.host (BitVec.ofNat 18 w) :: s.agenda) := rfl

/-- Settles O34: the placed word stands next, and is read as by the table (`position_of_decodeTableWord`,
`event_of_decodeTableWord`). -/
theorem placedWordRunsNext : Obligations.PlacedWordRunsNext := by
  intro s w i
  refine ⟨?_, fun read => (position_of_decodeTableWord read).1, fun read => ?_⟩
  · rintro p rfl read
    rw [withFetchWord_position]
    exact step_of_loop _ i rfl (position_of_decodeTableWord read).2
  · rw [withFetchWord_event]
    exact step_of_host _ _ i rfl (event_of_decodeTableWord read)

end Sys2Proof.Machine
end

section
/-! SUPPORT. The statements about the Register File and its two snapshots: the operations `RFSH`, `RFCL`, `VER0`, `VER1`,
`SHDW` (R120 to R124), `CUR` while no bus write completes (R125), and the lamp mask during one bus write (R127). -/

namespace Sys2Proof.Machine

/-! ## The five operations -/

/-- Settles O13: the copy is made in the branch that finds `RC` = 1. -/
theorem refreshCopiesWhenChanged : Obligations.RefreshCopiesWhenChanged :=
  ⟨rfl, fun _ => (apply_ite Host.Outcome.next _ _ _).symm⟩

/-- Settles O14: `execRfcl` is the two updates. -/
theorem refreshClearEndsTheChange : Obligations.RefreshClearEndsTheChange :=
  ⟨rfl, fun _ => rfl⟩

/-- Settles O15: each of the two stores one byte, with the laws of `RegFile.write`. -/
theorem versionBytesAreWritten : Obligations.VersionBytesAreWritten := by
  refine ⟨rfl, rfl, fun s => ⟨s.rf.write 0 versionLow, rfl, ?_, fun a other => ?_⟩,
    fun s => ⟨s.rf.write 1 versionHigh, rfl, ?_, fun a other => ?_⟩⟩
  · exact RegFile.read_write_same s.rf 0 versionLow (by decide)
  · exact RegFile.read_write_other s.rf 0 a versionLow other
  · exact RegFile.read_write_same s.rf 1 versionHigh (by decide)
  · exact RegFile.read_write_other s.rf 1 a versionHigh other

/-- Settles O16: `execShdw` is the two updates. -/
theorem shadowCopiesTheSnapshot : Obligations.ShadowCopiesTheSnapshot :=
  ⟨rfl, fun _ => rfl⟩

/-! ## What is left of the agenda -/

/-- Anything but a Loop step happens only because the agenda brings it. -/
theorem agenda_of_pending {s : State} {x : Stimulus} (next : s.pending = x) (other : x ≠ .loop) :
    s.agenda = x :: s.agenda.tail := by
  cases agenda : s.agenda with
  | nil => exact absurd (next.symm.trans (pending_of_agenda_nil agenda)) other
  | cons y rest => rw [← next, pending_of_head? (x := y) (by rw [agenda]; rfl)]; rfl

/-- No operation changes the agenda: `exec_setAgenda`, with the agenda that stands there. -/
theorem exec_agenda {i : Instr} {s t : State} (run : exec i s = .next t) : t.agenda = s.agenda := by
  have same : exec i s = .next (t.setAgenda s.agenda) := exec_setAgenda i s t s.agenda run
  rw [Host.Outcome.next.inj (run.symm.trans same)]
  rfl

/-- A step takes the head of the agenda and leaves the rest. -/
theorem step_agenda {s t : State} (answers : step s = .next t) : t.agenda = s.agenda.tail := by
  rcases step_next_cases answers with ⟨i, -, run⟩ | ⟨k, closed, -, rfl⟩ | ⟨-, rfl⟩
  · exact exec_agenda run
  · rfl
  · rfl

/-- A Loop step delivers none of the event words. -/
theorem hostWords_tail_of_loop {s : State} (next : s.pending = .loop) :
    hostWords s.agenda.tail = hostWords s.agenda := by
  cases agenda : s.agenda with
  | nil => rfl
  | cons x rest => obtain rfl : x = .loop := (pending_of_head? (by rw [agenda]; rfl)).symm.trans next; rfl

/-- What every step keeps, every run that answers keeps. -/
theorem runSteps_keeps {P : State → Prop} (kept : ∀ s t, P s → step s = .next t → P t) {n : Nat} {s t : State}
    (start : P s) (answers : runSteps n s = .next t) : P t := by
  induction n generalizing s with
  | zero => cases answers; exact start
  | succ n ih =>
    rw [runSteps] at answers
    split at answers
    · exact ih (kept _ _ start ‹_›) answers
    · cases answers
    · cases answers

/-! ## `CUR` while no bus write completes -/

/-- `RC` rises only by a word of kind `01` (R27, R211). -/
theorem rc_of_step {s t : State} (answers : step s = .next t) (rises : t.rc = true) :
    s.rc = true ∨ ∃ word, s.pending = .host word ∧ word.extractLsb' 16 2 = 1 := by
  cases next : s.pending with
  | loop => exact .inl ((loopFrame_of_step next answers).rc rises)
  | panel k closed =>
    cases (step_of_panel s k closed next).symm.trans answers
    exact .inl rises
  | rst =>
    cases (step_of_rst s next).symm.trans answers
    cases rises
  | host word =>
    rcases step_host_cases s word next with ⟨off, val, -, run⟩ | ⟨off, len, rfl, -⟩ | ⟨off, b, -, run⟩ | ⟨a, b, -, run⟩
    · cases run.symm.trans answers
      exact .inl rises
    · exact .inr ⟨_, rfl, kind_eventWord 1 off len⟩
    · obtain ⟨v, d, read, -⟩ := execHrd_cases off b s.consume
      cases (run.trans read).symm.trans answers
      exact .inl rises
    · cases run.symm.trans answers

/-- The agenda brings no reset event and no completed bus write. -/
def NoCompletion (agenda : List Stimulus) : Prop :=
  ∀ x ∈ agenda, x ≠ .rst ∧ ∀ word : EventWord, x = .host word → word.extractLsb' 16 2 ≠ 1

/-- Settles O46: with `RC` = 0 a step copies nothing (`snapshotChangesOnlyAtRefresh`), and `RC` does not rise
(`rc_of_step`). -/
theorem refreshIsIdempotent : Obligations.RefreshIsIdempotent := by
  intro n s t unchanged quiet answers
  have kept : ∀ u v : State, (u.cur = s.cur ∧ u.rc = false) ∧ NoCompletion u.agenda → step u = .next v →
      (v.cur = s.cur ∧ v.rc = false) ∧ NoCompletion v.agenda := by
    rintro u v ⟨⟨cur, rc⟩, quiet⟩ answers
    have due {x : Stimulus} (next : u.pending = x) (other : x ≠ .loop) :=
      quiet x (agenda_of_pending next other ▸ List.mem_cons_self)
    refine ⟨⟨?_, ?_⟩, ?_⟩
    · rcases snapshotChangesOnlyAtRefresh u v answers with same | ⟨-, -, changed, -⟩ | ⟨reset, -⟩
      · exact same.trans cur
      · cases rc.symm.trans changed
      · exact absurd rfl (due reset nofun).1
    · refine Bool.eq_false_iff.mpr fun rises => ?_
      rcases rc_of_step answers rises with changed | ⟨word, host, completion⟩
      · cases rc.symm.trans changed
      · exact (due host nofun).2 word rfl completion
    · rw [step_agenda answers]
      exact fun x later => quiet x (List.mem_of_mem_tail later)
  exact (runSteps_keeps kept ⟨⟨rfl, unchanged⟩, quiet⟩ answers).1

/-! ## The lamp mask during one bus write -/

/-- Files that read alike at offsets 4 to 7 have the same lamp mask (R97). -/
theorem lampMask_congr_read {m n : RegFile} (alike : ∀ a : Offset, 4 ≤ a.toNat → a.toNat < 8 → m.read a = n.read a) :
    lampMask m = lampMask n := by
  have byte (a : Nat) (low : 4 ≤ a) (high : a < 8) : m[a] = n[a] := by
    have index : (BitVec.ofNat 8 a).toNat = a := Offset.toNat_ofNat_of_lt (by omega)
    have same := alike (BitVec.ofNat 8 a) (by omega) (by omega)
    rw [RegFile.read_ofNat m (by omega), RegFile.read_ofNat n (by omega)] at same
    exact Option.some.inj same
  simp only [lampMask, byte 4, byte 5, byte 6, byte 7, Nat.reduceLeDiff, Nat.reduceLT]

/-- Bytes that land later do not tell apart two files that read alike at offsets 4 to 7. -/
theorem lampMask_writeFrom_congr {m n : RegFile}
    (alike : ∀ a : Offset, 4 ≤ a.toNat → a.toNat < 8 → m.read a = n.read a) (off : Nat) (bytes : List Byte) :
    lampMask (m.writeFrom off bytes) = lampMask (n.writeFrom off bytes) := by
  refine lampMask_congr_read fun a low high => ?_
  rw [RegFile.read_writeFrom _ _ _ _ (by omega), RegFile.read_writeFrom _ _ _ _ (by omega), alike a low high]

/-- Four bytes stored at offset 4 are the lamp mask, the first its lowest byte (R97). -/
theorem lampMask_writeFrom (m : RegFile) (a b c d : Byte) : lampMask (m.writeFrom 4 [a, b, c, d]) = d ++ c ++ b ++ a := by
  rw [show m.writeFrom 4 [a, b, c, d] = (((m.write 4 a).write 5 b).write 6 c).write 7 d from rfl]
  simp only [lampMask, RegFile.write_getElem]
  rfl

/-- The four bytes of `SETLAMPS m` make the lamp mask `m` (R105). -/
theorem lampMask_writeFrom_bytes (f : RegFile) (m : BitVec 32) :
    lampMask (f.writeFrom 4 [m.extractLsb' 0 8, m.extractLsb' 8 8, m.extractLsb' 16 8, m.extractLsb' 24 8]) = m := by
  rw [lampMask_writeFrom]
  iterate 3 rw [BitVec.extractLsb'_append_extractLsb'_eq_extractLsb' (by rfl)]
  exact BitVec.extractLsb'_eq_self

/-- The byte words of a bus write are none, and then they store nothing, or the first stores its byte before the others. -/
theorem landingWords_cases (off : Nat) (bytes : List Byte) :
    (landingWords off bytes = [] ∧ ∀ m : RegFile, m.writeFrom off bytes = m) ∨
    ∃ b rest, landingWords off bytes = eventWord 0 (BitVec.ofNat 8 off) b :: landingWords (off + 1) rest ∧
      ∀ m : RegFile, m.writeFrom off bytes = (m.write (BitVec.ofNat 8 off) b).writeFrom (off + 1) rest := by
  cases bytes with
  | nil => exact .inl ⟨rfl, fun _ => rfl⟩
  | cons b rest =>
    by_cases room : off < 255
    · exact .inr ⟨b, rest, if_pos room, fun _ => if_pos room⟩
    · exact .inl ⟨if_neg room, fun _ => if_neg room⟩

/-- How far one bus write that makes the lamp mask of `RF` into `m` has come, when `CUR` held the mask `old` before it. -/
inductive MaskWrite (old m : BitVec 32) (s : State) : Prop where
  /-- The bytes from `off` on and the completion are still to come: `RC` = 0, so `CUR` is not refreshed. -/
  | landing (off : Nat) (bytes : List Byte) (first : Offset) (length : Byte)
      (words : hostWords s.agenda = landingWords off bytes ++ [eventWord 1 first length])
      (mask : lampMask (s.rf.writeFrom off bytes) = m) (rc : s.rc = false) (cur : lampMask s.cur = old)
  /-- The write has completed: a refresh copies `m`. -/
  | completed (words : hostWords s.agenda = []) (mask : lampMask s.rf = m)
      (cur : lampMask s.cur = old ∨ lampMask s.cur = m)

/-- A step that delivers no event, writes none of the offsets 4 to 7, does not set `RC`, and leaves `CUR` or refreshes it
leaves the bus write where it is. -/
theorem MaskWrite.of_frame {old m : BitVec 32} {s t : State} (h : MaskWrite old m s)
    (words : hostWords t.agenda = hostWords s.agenda)
    (rf : ∀ a : Offset, 4 ≤ a.toNat → a.toNat < 8 → t.rf.read a = s.rf.read a) (rc : t.rc = true → s.rc = true)
    (cur : t.cur = s.cur ∨ s.rc = true ∧ t.cur = s.rf) : MaskWrite old m t := by
  cases h with
  | landing off bytes first length toCome mask unchanged before =>
    refine .landing off bytes first length (words.trans toCome) ((lampMask_writeFrom_congr rf off bytes).trans mask)
      (Bool.eq_false_iff.mpr fun rises => ?_) ?_
    · cases unchanged.symm.trans (rc rises)
    · rcases cur with same | ⟨changed, -⟩
      · rw [same, before]
      · cases unchanged.symm.trans changed
  | completed toCome mask now =>
    refine .completed (words.trans toCome) ((lampMask_congr_read rf).trans mask) ?_
    rcases cur with same | ⟨-, copied⟩
    · rwa [same]
    · exact .inr (by rw [copied, mask])

/-- A host event that is delivered is the next of the bus write. -/
theorem MaskWrite.of_host_step {old m : BitVec 32} {s t : State} {word : EventWord} {rest : List Stimulus}
    (h : MaskWrite old m s) (agenda : s.agenda = .host word :: rest) (answers : step s = .next t) : MaskWrite old m t := by
  have head : hostWords s.agenda = word :: hostWords rest := by rw [agenda]; rfl
  cases h with
  | landing off bytes first length toCome mask unchanged before =>
    rw [head] at toCome
    rcases landingWords_cases off bytes with ⟨empty, stored⟩ | ⟨b, later, starts, stored⟩
    · rw [empty, List.nil_append] at toCome
      obtain ⟨rfl, silent⟩ := List.cons.inj toCome
      cases (step_of_hwc agenda).symm.trans answers
      exact .completed silent ((stored s.rf).symm ▸ mask) (.inl before)
    · rw [starts, List.cons_append] at toCome
      obtain ⟨rfl, others⟩ := List.cons.inj toCome
      cases (step_of_hwb agenda).symm.trans answers
      exact .landing (off + 1) later first length others ((stored s.rf).symm ▸ mask) unchanged before
  | completed toCome mask now => cases head.symm.trans toCome

/-- Every step but the reset event keeps the bus write on its way. -/
theorem MaskWrite.of_step {old m : BitVec 32} {s t : State} (h : MaskWrite old m s) (noReset : s.pending ≠ .rst)
    (answers : step s = .next t) : MaskWrite old m t := by
  have cur : t.cur = s.cur ∨ s.rc = true ∧ t.cur = s.rf := by
    rcases snapshotChangesOnlyAtRefresh s t answers with same | ⟨-, -, copied⟩ | ⟨reset, -⟩
    · exact .inl same
    · exact .inr copied
    · exact absurd reset noReset
  cases next : s.pending with
  | loop =>
    have frame := loopFrame_of_step next answers
    refine h.of_frame ?_ (fun a low high => frame.others a (.inl ⟨by omega, high⟩)) frame.rc cur
    rw [step_agenda answers, hostWords_tail_of_loop next]
  | panel k closed =>
    cases (step_of_panel s k closed next).symm.trans answers
    refine h.of_frame ?_ (fun _ _ _ => rfl) id cur
    rw [agenda_of_pending next nofun]
    rfl
  | rst => exact absurd next noReset
  | host word => exact h.of_host_step (agenda_of_pending next nofun) answers

/-- Settles O51: `MaskWrite` holds at the start, every step keeps it, and in both its cases the mask of `CUR` is the old
one or the new one. -/
theorem maskOfOneTransactionIsNeverTorn : Obligations.MaskOfOneTransactionIsNeverTorn := by
  intro n m s t unchanged noReset words answers
  have start : MaskWrite (lampMask s.cur) m s :=
    .landing 4 _ _ _ words (lampMask_writeFrom_bytes s.rf m) unchanged rfl
  have kept : ∀ u v : State, Stimulus.rst ∉ u.agenda ∧ MaskWrite (lampMask s.cur) m u → step u = .next v →
      Stimulus.rst ∉ v.agenda ∧ MaskWrite (lampMask s.cur) m v := by
    rintro u v ⟨noReset, h⟩ answers
    refine ⟨?_, h.of_step (fun reset => noReset ?_) answers⟩
    · rw [step_agenda answers]
      exact fun later => noReset (List.mem_of_mem_tail later)
    · rw [agenda_of_pending reset nofun]
      exact List.mem_cons_self
  cases (runSteps_keeps kept ⟨noReset, start⟩ answers).2 with
  | landing _ _ _ _ _ _ _ cur => exact .inl cur
  | completed _ _ cur => exact cur

end Sys2Proof.Machine
end

section
/-! SUPPORT. The lamp table and the total map from identity to pattern: the table is a bijection onto the ordered pairs of
wires (R142, R143), `Pattern` (R144), the encoder (R154). -/

namespace Sys2Proof

/-! ## The table is a bijection -/

/-- A mask bit as an entry of the table: its pair of different wires. -/
def lampEntry (order : Equiv.Perm (Fin 18)) (i : Fin 20) : { pair : Fin 5 × Fin 5 // pair.1 ≠ pair.2 } :=
  ⟨lampPair order i, lampPair_ne order i⟩

/-- From mask bit 2 on the pairs are the open ones, each where `order` puts it. -/
theorem lampPair_of_open (order : Equiv.Perm (Fin 18)) (j : Fin 18) :
    lampPair order (order.symm j).succ.succ = openPairs[j] :=
  congrArg (fun k : Fin 18 => openPairs[k]) (order.apply_symm_apply j)

/-- Every pair of different wires is in the table: the two of the source first, then the open ones. -/
theorem lampEntry_surjective (order : Equiv.Perm (Fin 18)) : Function.Surjective (lampEntry order) := by
  rintro ⟨⟨low, high⟩, ne⟩
  rcases openPairs_all low high ne with first | second | ⟨j, entry⟩
  · exact ⟨0, Subtype.ext first.symm⟩
  · exact ⟨1, Subtype.ext second.symm⟩
  · exact ⟨(order.symm j).succ.succ, Subtype.ext ((lampPair_of_open order j).trans entry)⟩

/-- There are as many ordered pairs of different wires as lamps, so the table is a bijection onto them (R143). -/
theorem lampEntry_bijective (order : Equiv.Perm (Fin 18)) : Function.Bijective (lampEntry order) :=
  (Fintype.bijective_iff_surjective_and_card _).mpr ⟨lampEntry_surjective order, by decide⟩

/-- No two lamps have the same pattern (R143). -/
theorem lampPattern_injective : Function.Injective lampPattern := by
  intro i j same
  obtain ⟨low, high⟩ := pairPattern_inj _ _ _ _ (lampPair_ne _ i) (lampPair_ne _ j) same
  exact (lampEntry_bijective Config.lampOrder).injective (Subtype.ext (Prod.ext low high))

/-- A lamp's pattern drives a wire Low, so it is not `AllFloat`. -/
theorem lampPattern_ne_allFloat (i : Fin 20) : lampPattern i ≠ allFloat := by
  obtain ⟨low, -⟩ := pairPattern_facts _ _ (lampPair_ne Config.lampOrder i)
  intro dark
  rw [show pairPattern _ _ = allFloat from dark] at low
  exact absurd low (by decide)

/-- The two words of a pair pattern: two bits of `OE`, one of `DO`, and no level without its enable (R142). -/
theorem pairPattern_words : ∀ low high : Fin 5, low ≠ high →
    (List.finRange 5).countP (fun p => (patternOE (pairPattern low high)).getLsbD p.val) = 2 ∧
    (List.finRange 5).countP (fun p => (patternDO (pairPattern low high)).getLsbD p.val) = 1 ∧
    patternDO (pairPattern low high) &&& ~~~ patternOE (pairPattern low high) = 0 := by decide

/-- Settles O8: every entry is the pattern of a pair of different wires (`pairPattern_facts`, `pairPattern_words`), and
the table is a bijection onto these pairs (`lampEntry_bijective`). -/
theorem lampTableIsABijection : Obligations.LampTableIsABijection := by
  refine ⟨fun i => ?_, fun i => pairPattern_words _ _ (lampPair_ne _ i), fun _ _ same => lampPattern_injective same,
    fun low high ne => ?_, rfl, rfl, rfl, rfl⟩
  · obtain ⟨low, high, float, -⟩ := pairPattern_facts _ _ (lampPair_ne Config.lampOrder i)
    exact ⟨low, high, float⟩
  · obtain ⟨i, entry⟩ := lampEntry_surjective Config.lampOrder ⟨(low, high), ne⟩
    have pair : lampPattern i = pairPattern low high :=
      congrArg (fun e : { pair : Fin 5 × Fin 5 // pair.1 ≠ pair.2 } => pairPattern e.val.1 e.val.2) entry
    obtain ⟨-, -, -, drivenLow, drivenHigh⟩ := pairPattern_facts low high ne
    exact ⟨i, by rw [pair, drivenLow], by rw [pair, drivenHigh]⟩

/-! ## `Pattern` and the encoder -/

theorem allFloat_getElem (p : Fin 5) : allFloat[p] = .float := Vector.getElem_replicate ..

/-- Settles O9: `pattern_of_bit` and `pattern_outside`; the two entries of the source are computed. -/
theorem patternIsTotal : Obligations.PatternIsTotal := by
  refine ⟨pattern_of_bit, fun id outside p => ?_, rfl, rfl⟩
  rw [pattern_outside id outside, allFloat_getElem]

/-- Settles O10: each word is five bits of the pattern, bit `p` from wire `p` (`fiveBits_getLsbD`). -/
theorem encoderOfALamp : Obligations.EncoderOfALamp := by
  refine ⟨fun id p => ⟨?_, ?_⟩, rfl, rfl, fun id outside => ?_⟩
  · rw [enc, patternOE, fiveBits_getLsbD, WireState.oe_eq]
  · rw [enc, patternDO, fiveBits_getLsbD, WireState.level_eq]
  · rw [enc, pattern_outside id outside]
    rfl

end Sys2Proof
end

section
/-! SUPPORT. The Lamp Multiplexer: its three operations (R148 to R150), which lamp is lit (R152) and the whole pass (R147,
R153). -/

namespace Sys2Proof.Machine

/-! ## The three operations -/

/-- A position below 71 as a number. -/
theorem seqPos_eq_ofNat {n : Nat} (lt : n < 71) : (⟨n, lt⟩ : SeqPos) = Fin.ofNat 71 n :=
  Fin.ext (Nat.mod_eq_of_lt lt).symm

/-- A lamp that is requested is lit (R148). -/
theorem lampOn_of_set {i : Fin 20} {s : State} (bit : (lampMask s.cur).getLsbD i.val = true) :
    lampOn i s = .next ((s.setW (pattern (i.val + 1))).setSeq ⟨5 + 2 * i.val, by omega⟩) := if_pos bit

/-- A lamp that is not requested is passed over (R148). -/
theorem lampOn_of_clear {i : Fin 20} {s : State} (bit : ¬ (lampMask s.cur).getLsbD i.val = true) :
    lampOn i s = .next (s.setSeq ⟨6 + 2 * i.val, by omega⟩) := if_neg bit

/-- Settles O17: both branches of `lampOn`. -/
theorem lampOnFollowsItsMaskBit : Obligations.LampOnFollowsItsMaskBit := by
  refine fun i => ⟨encode_lon i, fun s => ?_⟩
  rw [exec_lon, lampOn, apply_ite Host.Outcome.next, seqPos_eq_ofNat, seqPos_eq_ofNat]
  rfl

/-- Settles O18: `lampOff` is the two updates. -/
theorem lampOffFloatsTheWires : Obligations.LampOffFloatsTheWires := by
  refine fun i => ⟨encode_loff i, fun s => ?_⟩
  rw [exec_loff, lampOff, seqPos_eq_ofNat]
  rfl

/-- Settles O19: `execLend` is the two updates. -/
theorem passEndFloatsTheWires : Obligations.PassEndFloatsTheWires :=
  ⟨rfl, fun _ => rfl⟩

/-! ## Which lamp is lit -/

/-- Lamp `i` is held at position `5 + 2i` and nowhere else (R151, R194). -/
theorem heldLamp_eq_some_iff (p : SeqPos) (i : Fin 20) : heldLamp p = some i ↔ p.val = 5 + 2 * i.val := by
  refine ⟨fun held => ?_, heldLamp_of_odd i p⟩
  unfold heldLamp at held
  split at held
  · cases held
    show p.val = 5 + 2 * ((p.val - 5) / 2)
    omega
  · cases held

/-- The wires hold a lamp's pattern exactly at the positions where the lamp is held. -/
theorem heldPattern_eq_lampPattern_iff (p : SeqPos) (i : Fin 20) :
    heldPattern p = lampPattern i ↔ p.val = 5 + 2 * i.val := by
  rw [← heldLamp_eq_some_iff, heldPattern]
  cases heldLamp p with
  | none => exact ⟨fun dark => absurd dark.symm (lampPattern_ne_allFloat i), nofun⟩
  | some j => exact lampPattern_injective.eq_iff.trans Option.some_inj.symm

/-- Settles O42: patterns name their lamps (`lampPattern_injective`), and with `Inv` the wires hold what the position
names. -/
theorem atMostOneLampIsLit : Obligations.AtMostOneLampIsLit := by
  refine ⟨fun s i j lit lit' => lampPattern_injective (lit.symm.trans lit'), fun s i inv => ?_⟩
  rw [State.lit, inv.wires, heldPattern_eq_lampPattern_iff]

/-! ## The lamp pass -/

/-- The next steps from `s` put the patterns `ws` on the wires, one each, and end in `t`. -/
def Shows (ws : List WirePattern) (s t : State) : Prop :=
  runSteps ws.length s = .next t ∧ wiresDuring ws.length s = ws

theorem Shows.nil (s : State) : Shows [] s s := ⟨rfl, rfl⟩

/-- A step shows the pattern it leaves on the wires. -/
theorem Shows.cons {s t u : State} {ws : List WirePattern} (first : step s = .next t) (rest : Shows ws t u) :
    Shows (t.w :: ws) s u := by
  obtain ⟨run, wires⟩ := rest
  refine ⟨(runSteps_succ _ s t first).trans run, ?_⟩
  simp only [List.length_cons, wiresDuring, first, wires]

theorem Shows.append {s t u : State} {ws vs : List WirePattern} (first : Shows ws s t) (rest : Shows vs t u) :
    Shows (ws ++ vs) s u := by
  induction ws generalizing s with
  | nil =>
    obtain ⟨run, -⟩ := first
    cases run
    exact rest
  | cons w ws ih =>
    obtain ⟨run, wires⟩ := first
    simp only [List.length_cons, runSteps, wiresDuring] at run wires
    split at run
    next v answers =>
      rw [answers] at wires
      obtain ⟨rfl, later⟩ := List.cons.inj wires
      exact (ih ⟨run, later⟩).cons answers
    next => cases run
    next => cases run

/-- What one lamp's part of the pass shows under the mask `m`: its pattern and the dark, or the dark alone (R148, R149). -/
def lampShow (m : BitVec 32) (i : Fin 20) : List WirePattern :=
  if m.getLsbD i.val then [pattern (i.val + 1), allFloat] else [allFloat]

/-- Undisturbed, position `4 + 2i` runs `LON(i)` (R101). -/
theorem step_lon {s : State} (quiet : s.agenda = []) (i : Fin 20) (here : s.seq.val = 4 + 2 * i.val) :
    step s = lampOn i s := by
  rw [← exec_lon]
  have read := decode_encode_lon i
  exact step_of_position quiet (by rwa [encode_lon, ← here] at read)

/-- Undisturbed, position `5 + 2i` runs `LOFF(i)` (R101). -/
theorem step_loff {s : State} (quiet : s.agenda = []) (i : Fin 20) (here : s.seq.val = 5 + 2 * i.val) :
    step s = lampOff i s := by
  rw [← exec_loff]
  have read := decode_encode_loff i
  exact step_of_position quiet (by rwa [encode_loff, ← here] at read)

/-- Floating wires that float already changes nothing. -/
theorem setW_allFloat {s : State} (dark : s.w = allFloat) : s.setW allFloat = s := by
  rw [← dark]
  rfl

/-- One lamp's part of the pass, from the dark and back: `LON(i)`, and `LOFF(i)` where the lamp was lit. -/
theorem shows_lampShow {s : State} (quiet : s.agenda = []) (dark : s.w = allFloat) (i : Fin 20) {q : SeqPos}
    (here : s.seq.val = 4 + 2 * i.val) (there : q.val = 6 + 2 * i.val) :
    Shows (lampShow (lampMask s.cur) i) s (s.setSeq q) := by
  have lt : 6 + 2 * i.val < 71 := by omega
  obtain rfl : q = ⟨6 + 2 * i.val, lt⟩ := Fin.ext there
  have on := step_lon quiet i here
  by_cases bit : (lampMask s.cur).getLsbD i.val = true
  · rw [lampOn_of_set bit] at on
    have off := step_loff (s := (s.setW (pattern (i.val + 1))).setSeq ⟨5 + 2 * i.val, by omega⟩) quiet i rfl
    have back : (s.setW allFloat).setSeq ⟨6 + 2 * i.val, lt⟩ = s.setSeq ⟨6 + 2 * i.val, lt⟩ := by
      rw [setW_allFloat dark]
    rw [lampShow, if_pos bit, ← back]
    exact .cons on (.cons off (.nil _))
  · rw [lampOn_of_clear bit] at on
    rw [lampShow, if_neg bit, ← dark]
    exact .cons (t := s.setSeq ⟨_, lt⟩) on (.nil _)

/-- The first `n` lamps of the pass, in ascending order. -/
theorem shows_lamps {s : State} (quiet : s.agenda = []) (dark : s.w = allFloat) (n : Nat) (le : n ≤ 20) :
    Shows ((List.finRange n).flatMap fun i => lampShow (lampMask s.cur) (i.castLE le)) (s.setSeq 4)
      (s.setSeq ⟨4 + 2 * n, by omega⟩) := by
  induction n with
  | zero => exact .nil _
  | succ n ih =>
    rw [List.finRange_succ_last, List.flatMap_append, List.flatMap_map]
    refine (ih (by omega)).append ?_
    rw [List.flatMap_singleton]
    have next : 4 + 2 * (n + 1) = 6 + 2 * n := by omega
    exact shows_lampShow (s := s.setSeq ⟨4 + 2 * n, by omega⟩) quiet dark ⟨n, by omega⟩ rfl next

/-- Two steps for each requested lamp, one for each other. -/
theorem length_lampShows (m : BitVec 32) (l : List (Fin 20)) :
    (l.flatMap (lampShow m)).length = l.length + l.countP fun i => m.getLsbD i.val := by
  induction l with
  | nil => rfl
  | cons i l ih =>
    rw [List.flatMap_cons, List.length_append, ih, List.length_cons, List.countP_cons, lampShow]
    split <;> simp only [List.length_cons, List.length_nil] <;> omega

/-- Settles O52: the twenty lamps in turn (`shows_lamps`), then `LEND`; the number of steps is the number of patterns
(`length_lampShows`). -/
theorem passVisitsExactlyTheSetBits : Obligations.PassVisitsExactlyTheSetBits := by
  intro s quiet start dark
  have lamps := shows_lamps quiet dark 20 le_rfl
  have last : step (s.setSeq 44) = .next ((s.setW allFloat).setSeq 45) := step_of_position (i := .lend) quiet rfl
  have length : (((List.finRange 20).flatMap (lampShow (lampMask s.cur))) ++ [allFloat]).length =
      21 + requestedLamps (lampMask s.cur) := by
    rw [List.length_append, length_lampShows, List.length_finRange, requestedLamps, List.length_singleton]
    omega
  rw [← length]
  have here : s.setSeq 4 = s := by
    rw [← show s.seq = 4 from Fin.ext start]
    rfl
  have shown := lamps.append (.cons last (.nil _))
  rw [here, setW_allFloat dark, State.setSeq_w, dark] at shown
  exact shown

end Sys2Proof.Machine
end

section
/-! SUPPORT. The invariant of the cycle: what its clauses ask at one position, one rule per operation (R148, R153, R164,
R176 to R182), then the host's events and the step. -/

namespace Sys2Proof.Machine

/-! ## The clauses at one position -/

/-- The clauses of `State.Inv` about what was seen on the way to position `n`. Those that do not speak of `n` need no proof
there. -/
structure State.PassedAt (s : State) (n : Nat) : Prop where
  changeSeen : n = 1 → s.rc = true := by omega
  readSeen : n = 3 → s.bc = true ∧ s.irq = .deasserted := by omega
  differs : 63 ≤ n → n ≤ 68 → s.snapshotChanged = true := by omega
  settled : n ≤ 48 ∨ n = 70 → s.btn = s.pbtn := by omega
  announced : n = 69 → s.snapshotChanged = true → s.irq = .asserted := by omega
  shadow : n = 0 → s.prev = s.cur := by omega

/-- The line that `State.Inv` wants `Active` at position `n` is that of bank `k`: `bankHeld`, of a number. -/
abbrev HeldAt (n : Nat) (k : Fin 5) : Prop := n = 48 + 3 * k.val ∨ n = 49 + 3 * k.val

/-- At a position at which no lamp is held, the first two clauses say that the wires float. -/
theorem State.PassedAt.inv_of_dark {t : State} {n : Nat} (passed : t.PassedAt n) (there : t.seq.val = n)
    (dark : n < 5 ∨ 43 < n ∨ n % 2 = 0) (wires : t.w = allFloat) (lines : ∀ k : Fin 5, t.sel[k] = .active ↔ HeldAt n k)
    (banks : ∀ k : Fin 5, t.btn[k].toNat < 8 ∧ t.pbtn[k].toNat < 8) : t.Inv := by
  subst there
  exact { passed with
    wires := wires.trans (heldPattern_of_dark _ dark).symm
    requested := fun i held => by rw [heldLamp_of_dark _ dark] at held; cases held
    lines := lines
    banks := banks }

/-- Bits 7 to 3 of a bank byte are 0 (R99). -/
theorem bankByte_lt (levels : SenseLevels) : (bankByte levels).toNat < 8 := by
  obtain ⟨inverted, -⟩ := bankByteInvertsAndMasks levels
  omega

namespace State.Inv

/-! ## One rule per operation -/

section

variable {s t : State} (h : s.Inv)
include h

/-- At a position at which no lamp is held the wires float. -/
theorem w_eq_allFloat (dark : s.seq.val < 5 ∨ 43 < s.seq.val ∨ s.seq.val % 2 = 0) : s.w = allFloat :=
  h.wires.trans (heldPattern_of_dark _ dark)

/-- Lines that stay are right at a position that holds the same banks. -/
theorem lines_congr {n : Nat} (same : ∀ k : Fin 5, HeldAt s.seq.val k ↔ HeldAt n k) (k : Fin 5) :
    s.sel[k] = .active ↔ HeldAt n k :=
  (h.lines k).trans (same k)

/-- A line that is set is right where it is `Active` exactly if its bank is held, the others where they were before. -/
theorem lines_set {n : Nat} {k : Fin 5} {x : SelectState} (own : x = .active ↔ HeldAt n k)
    (others : ∀ j : Fin 5, j.val ≠ k.val → (HeldAt s.seq.val j ↔ HeldAt n j)) (j : Fin 5) :
    (s.sel.set k x)[j] = .active ↔ HeldAt n j := by
  by_cases here : k = j
  · subst here
    rwa [show (s.sel.set k x)[k] = x from Vector.getElem_set_self k.isLt]
  · have ne : k.val ≠ j.val := fun same => here (Fin.ext same)
    rw [show (s.sel.set k x)[j] = s.sel[j] from Vector.getElem_set_ne k.isLt j.isLt ne]
    exact (h.lines j).trans (others j ne.symm)

/-- A move between positions outside the lamp pass and the scan that leaves wires and lines alone. -/
theorem outside (n : Nat) (there : t.seq.val = n)
    (out : (s.seq.val ≤ 4 ∨ 44 ≤ s.seq.val ∧ s.seq.val ≤ 47 ∨ 62 ≤ s.seq.val) ∧ (n ≤ 4 ∨ 44 ≤ n ∧ n ≤ 47 ∨ 62 ≤ n))
    (w : t.w = s.w) (sel : t.sel = s.sel) (banks : ∀ k : Fin 5, t.btn[k].toNat < 8 ∧ t.pbtn[k].toNat < 8)
    (passed : t.PassedAt n) : t.Inv :=
  passed.inv_of_dark there (by omega) (w.trans (h.w_eq_allFloat (by omega)))
    (sel ▸ h.lines_congr fun k => by omega) banks

/-- `CUR` changes only where no lamp is held (R120). -/
theorem rfsh (here : s.seq.val = 0) (run : execRfsh s = .next t) : t.Inv := by
  have same := h.settled (by omega)
  unfold execRfsh at run
  split at run <;> cases run
  · exact h.outside 1 rfl (by omega) rfl rfl h.banks { changeSeen := fun _ => ‹_›, settled := fun _ => same }
  · exact h.outside 2 rfl (by omega) rfl rfl h.banks { settled := fun _ => same }

theorem rfcl (here : s.seq.val = 1) (run : execRfcl s = .next t) : t.Inv := by
  cases run
  exact h.outside 2 rfl (by omega) rfl rfl h.banks { settled := fun _ => h.settled (by omega) }

theorem ack (here : s.seq.val = 2) (run : execAck s = .next t) : t.Inv := by
  have same := h.settled (by omega)
  unfold execAck at run
  split at run <;> cases run
  · exact h.outside 3 rfl (by omega) rfl rfl h.banks { readSeen := fun _ => ⟨‹_›, rfl⟩, settled := fun _ => same }
  · exact h.outside 4 rfl (by omega) rfl rfl h.banks { settled := fun _ => same }

theorem ackcl (here : s.seq.val = 3) (run : execAckcl s = .next t) : t.Inv := by
  cases run
  exact h.outside 4 rfl (by omega) rfl rfl h.banks { settled := fun _ => h.settled (by omega) }

/-- `LON(i)` lights its lamp only where the mask requests it, and else leaves the wires floating (R148). -/
theorem lampOn {i : Fin 20} (here : s.seq.val = 4 + 2 * i.val) (run : Machine.lampOn i s = .next t) : t.Inv := by
  have same := h.settled (by omega)
  by_cases bit : (lampMask s.cur).getLsbD i.val = true
  · cases (lampOn_of_set bit).symm.trans run
    have passed : s.PassedAt (5 + 2 * i.val) := { settled := fun _ => same }
    exact { passed with
      wires := (pattern_of_bit i).trans (heldPattern_of_odd i _ rfl).symm
      requested := fun j held => by
        rw [heldLamp_of_odd i _ rfl] at held
        cases held; exact bit
      lines := h.lines_congr (n := 5 + 2 * i.val) fun k => by omega
      banks := h.banks }
  · cases (lampOn_of_clear bit).symm.trans run
    exact PassedAt.inv_of_dark (n := 6 + 2 * i.val) { settled := fun _ => same } rfl (by omega)
      (h.w_eq_allFloat (by omega)) (h.lines_congr fun k => by omega) h.banks

theorem lampOff {i : Fin 20} (here : s.seq.val = 5 + 2 * i.val) (run : Machine.lampOff i s = .next t) : t.Inv := by
  cases run
  exact PassedAt.inv_of_dark (n := 6 + 2 * i.val) { settled := fun _ => h.settled (by omega) } rfl (by omega) rfl
    (h.lines_congr fun k => by omega) h.banks

theorem lend (here : s.seq.val = 44) (run : execLend s = .next t) : t.Inv := by
  cases run
  exact h.outside 45 rfl (by omega) (h.w_eq_allFloat (by omega)).symm rfl h.banks
    { settled := fun _ => h.settled (by omega) }

theorem ver0 (here : s.seq.val = 45) (run : execVer0 s = .next t) : t.Inv := by
  cases run
  exact h.outside 46 rfl (by omega) rfl rfl h.banks { settled := fun _ => h.settled (by omega) }

theorem ver1 (here : s.seq.val = 46) (run : execVer1 s = .next t) : t.Inv := by
  cases run
  exact h.outside 47 rfl (by omega) rfl rfl h.banks { settled := fun _ => h.settled (by omega) }

/-- `SELA(0)` comes before the first sample, so the snapshots of the switches still agree there. -/
theorem selectBank {k : Fin 5} (here : s.seq.val = 47 + 3 * k.val) (run : Machine.selectBank k s = .next t) :
    t.Inv := by
  cases run
  exact PassedAt.inv_of_dark (n := 48 + 3 * k.val) { settled := fun _ => h.settled (by omega) } rfl (by omega)
    (h.w_eq_allFloat (by omega)) (h.lines_set (iff_of_true rfl (.inl rfl)) fun j other => by omega) h.banks

/-- A sample stores a byte of three bits (R163). -/
theorem sampleBank {k : Fin 5} (here : s.seq.val = 48 + 3 * k.val) (run : Machine.sampleBank k s = .next t) :
    t.Inv := by
  obtain ⟨d, after⟩ := afterSense_eq s
  rw [Machine.sampleBank, after] at run
  cases run
  refine PassedAt.inv_of_dark (n := 49 + 3 * k.val) {} rfl (by omega) (h.w_eq_allFloat (by omega))
    (h.lines_congr fun j => by omega) fun j => ⟨?_, (h.banks j).2⟩
  show ((s.btn.set k (bankByte s.senseLevels))[j.val]).toNat < 8
  rw [Vector.getElem_set]
  split
  · exact bankByte_lt s.senseLevels
  · exact (h.banks j).1

theorem deselectBank {k : Fin 5} (here : s.seq.val = 49 + 3 * k.val) (run : Machine.deselectBank k s = .next t) :
    t.Inv := by
  cases run
  exact PassedAt.inv_of_dark (n := 50 + 3 * k.val) {} rfl (by omega) (h.w_eq_allFloat (by omega))
    (h.lines_set (iff_of_false nofun (by omega)) fun j other => by omega) h.banks

theorem bcmp (here : s.seq.val = 62) (run : execBcmp s = .next t) : t.Inv := by
  unfold execBcmp at run
  split at run <;> cases run
  · exact h.outside 63 rfl (by omega) rfl rfl h.banks { differs := fun _ _ => ‹_› }
  · exact h.outside 69 rfl (by omega) rfl rfl h.banks { announced := fun _ changed => absurd changed ‹_› }

theorem writeBank {k : Fin 5} (here : s.seq.val = 63 + k.val) (run : Machine.writeBank k s = .next t) : t.Inv := by
  cases run
  exact h.outside (64 + k.val) rfl (by omega) rfl rfl h.banks
    { differs := fun _ _ => h.differs (by omega) (by omega) }

theorem irqa (here : s.seq.val = 68) (run : execIrqa s = .next t) : t.Inv := by
  cases run
  exact h.outside 69 rfl (by omega) rfl rfl h.banks { announced := fun _ _ => rfl }

theorem pbup (here : s.seq.val = 69) (run : execPbup s = .next t) : t.Inv := by
  cases run
  exact h.outside 70 rfl (by omega) rfl rfl (fun k => ⟨(h.banks k).1, (h.banks k).1⟩) { settled := fun _ => rfl }

theorem shdw (here : s.seq.val = 70) (run : execShdw s = .next t) : t.Inv := by
  cases run
  exact h.outside 0 rfl (by omega) rfl rfl h.banks
    { settled := fun _ => h.settled (by omega), shadow := fun _ => rfl }

/-! ## The steps of the agents -/

theorem consume : s.consume.Inv := { h with }

/-- A step of the Loop agent, by its micro-operation. -/
theorem of_loop_step (next : s.pending = .loop) (answers : step s = .next t) : t.Inv := by
  have h := h.consume
  rcases step_loop_cases s next with ⟨p, run⟩ | ⟨p, run⟩ | ⟨p, run⟩ | ⟨p, run⟩ | ⟨i, p, run⟩ | ⟨i, p, run⟩ | ⟨p, run⟩ |
    ⟨p, run⟩ | ⟨p, run⟩ | ⟨k, p, run⟩ | ⟨k, p, run⟩ | ⟨k, p, run⟩ | ⟨p, run⟩ | ⟨k, p, run⟩ | ⟨p, run⟩ | ⟨p, run⟩ |
    ⟨p, run⟩ <;> rw [run] at answers
  · exact h.rfsh p answers
  · exact h.rfcl p answers
  · exact h.ack p answers
  · exact h.ackcl p answers
  · exact h.lampOn p answers
  · exact h.lampOff p answers
  · exact h.lend p answers
  · exact h.ver0 p answers
  · exact h.ver1 p answers
  · exact h.selectBank p answers
  · exact h.sampleBank p answers
  · exact h.deselectBank p answers
  · exact h.bcmp p answers
  · exact h.writeBank p answers
  · exact h.irqa p answers
  · exact h.pbup p answers
  · exact h.shdw p answers

/-- A step of the Host agent touches no clause but those about the flags, and it clears none (R236, R237). -/
theorem of_host_step {word : EventWord} (next : s.pending = .host word) (answers : step s = .next t) : t.Inv := by
  rcases step_host_cases s word next with ⟨off, val, -, run⟩ | ⟨off, len, -, run⟩ | ⟨off, b, -, run⟩ | ⟨a, b, -, run⟩
  · cases run.symm.trans answers
    exact { h with }
  · cases run.symm.trans answers
    exact { h with changeSeen := fun _ => rfl }
  · obtain ⟨v, d, read, -⟩ := execHrd_cases off b s.consume
    cases (run.trans read).symm.trans answers
    refine { h with readSeen := fun p => ?_ }
    obtain ⟨bc, irq⟩ := h.readSeen p
    exact ⟨Bool.or_eq_true_iff.mpr (.inl bc), irq⟩
  · cases run.symm.trans answers

end

end State.Inv

/-- The reset event leaves the block as after reset, whatever it was (R260). -/
theorem resetBlock_inv (s : State) : s.resetBlock.Inv := { reset_inv with }

/-- Settles O40, agent by agent: the Loop agent by its micro-operation (`State.Inv.of_loop_step`), the Host agent by its
event (`State.Inv.of_host_step`); the panel changes no state of the block, and reset gives the reset state. -/
theorem everyStepKeepsTheCycle : Obligations.EveryStepKeepsTheCycle := by
  intro s t inv answers
  cases next : s.pending with
  | loop => exact inv.of_loop_step next answers
  | host word => exact inv.of_host_step next answers
  | panel k closed =>
    cases (step_of_panel s k closed next).symm.trans answers
    exact { inv with }
  | rst =>
    cases (step_of_rst s next).symm.trans answers
    exact resetBlock_inv s.consume

end Sys2Proof.Machine
end

section
/-! SUPPORT. The Switch Scanner: its three operations (R161 to R163) and the scan of all five banks (R164, R166). -/

namespace Sys2Proof.Machine

/-! ## The three operations -/

/-- Setting one of the five leaves the other four. -/
theorem getElem_set_of_ne {α : Type} (v : Vector α 5) {k j : Fin 5} (x : α) (other : j ≠ k) : (v.set k x)[j] = v[j] :=
  Vector.getElem_set_ne k.isLt j.isLt fun same => other (Fin.ext same.symm)

/-- One select line is set: the line, the other four, and its port (R51, R168). -/
theorem setLine_shows (s : State) (k : Fin 5) (x : SelectState) :
    (s.setLine k x).sel[k] = x ∧ (∀ j : Fin 5, j ≠ k → (s.setLine k x).sel[j] = s.sel[j]) ∧
    (s.setLine k x).selPort.getLsbD k.val = (x != .active) := by
  have line : (s.setLine k x).sel[k] = x := Vector.getElem_set_self k.isLt
  obtain ⟨-, -, port, -⟩ := portsShowTheLatches (s.setLine k x) k
  exact ⟨line, fun j => getElem_set_of_ne s.sel x, port.trans (by rw [line])⟩

/-- Settles O20: `selectBank` sets one line (`setLine_shows`). -/
theorem selectDrivesOneLine : Obligations.SelectDrivesOneLine := by
  refine fun k => ⟨encode_sela k, fun s => ⟨s.sel.set k .active, ?_, setLine_shows s k .active⟩⟩
  rw [exec_sela, selectBank, seqPos_eq_ofNat]
  rfl

/-- Settles O21: `deselectBank` sets one line (`setLine_shows`). -/
theorem deselectReturnsOneLine : Obligations.DeselectReturnsOneLine := by
  refine fun k => ⟨encode_seli k, fun s => ⟨s.sel.set k .idle, ?_, setLine_shows s k .idle⟩⟩
  rw [exec_seli, deselectBank, seqPos_eq_ofNat]
  rfl

/-- A sample of the only bank selected stores its closed switches: the lines are inverted by the panel and again by the
scanner (R104, R163, R169). -/
theorem sampleBank_of_only {s : State} {k : Fin 5} {closed : Contacts} (only : ∀ j : Fin 5, s.sel[j] = .active ↔ j = k)
    (fixed : s.contacts[k] = some closed) :
    sampleBank k s = .next ((s.setBank k (closed.setWidth 8)).setSeq ⟨49 + 3 * k.val, by omega⟩) := by
  have levels := fixedLevels_of_only s k closed only fixed
  simp only [sampleBank, State.afterSense, State.senseLevels, levels, bankByte_eq, BitVec.not_not]

/-- Settles O22: whatever levels are read, their bank byte is stored; with fixed contacts it is that of
`sampleBank_of_only`. -/
theorem sampleStoresTheInvertedLevels : Obligations.SampleStoresTheInvertedLevels := by
  refine fun k => ⟨encode_samp k, fun s => ?_, fun s closed only fixed => ?_⟩
  · obtain ⟨drawn, after⟩ := afterSense_eq s
    refine ⟨s.senseLevels, s.btn.set k (bankByte s.senseLevels), drawn, ?_, Vector.getElem_set_self k.isLt,
      fun j => getElem_set_of_ne s.btn _⟩
    rw [exec_samp, sampleBank, after, seqPos_eq_ofNat]
    rfl
  · refine ⟨s.btn.set k (closed.setWidth 8), ?_, Vector.getElem_set_self k.isLt, fun j => getElem_set_of_ne s.btn _⟩
    rw [exec_samp, sampleBank_of_only only fixed, seqPos_eq_ofNat]
    rfl

/-! ## The scan -/

/-- Undisturbed, the Loop agent runs the micro-operation whose encoding is its position. -/
theorem step_of_encode {s : State} {i : Instr} (quiet : s.agenda = []) (here : encode i = [BitVec.ofNat 8 s.seq.val]) :
    step s = exec i s := by
  have read := decodeOfEncodeIsTheOperation i
  rw [here] at read
  exact step_of_position quiet read

/-- From all lines `Idle`, the line that is selected is the only `Active` one. -/
theorem only_of_select {s : State} (idle : ∀ j : Fin 5, s.sel[j] = .idle) (k j : Fin 5) :
    (s.setLine k .active).sel[j] = .active ↔ j = k := by
  obtain ⟨line, others, -⟩ := setLine_shows s k .active
  refine ⟨fun active => ?_, fun same => same ▸ line⟩
  by_contra other
  rw [others j other, idle j] at active
  cases active

/-- A line that is selected and returned to `Idle` is as it was. -/
theorem setLine_idle_of_select {s : State} {k : Fin 5} (idle : s.sel[k] = .idle) :
    (s.setLine k .active).setLine k .idle = s := by
  have lines : (s.sel.set k .active).set k .idle = s.sel := by
    rw [Vector.set_set, ← idle]
    exact Vector.set_getElem_self k.isLt
  exact congrArg s.setSel lines

/-- Undisturbed, position `47 + 3k` runs `SELA(k)` (R101). -/
theorem step_sela {s : State} (quiet : s.agenda = []) {k : Fin 5} (here : s.seq.val = 47 + 3 * k.val) :
    step s = selectBank k s := by
  rw [step_of_encode quiet (here ▸ encode_sela k), exec_sela]

/-- Undisturbed, position `48 + 3k` runs `SAMP(k)` (R101). -/
theorem step_samp {s : State} (quiet : s.agenda = []) {k : Fin 5} (here : s.seq.val = 48 + 3 * k.val) :
    step s = sampleBank k s := by
  rw [step_of_encode quiet (here ▸ encode_samp k), exec_samp]

/-- Undisturbed, position `49 + 3k` runs `SELI(k)` (R101). -/
theorem step_seli {s : State} (quiet : s.agenda = []) {k : Fin 5} (here : s.seq.val = 49 + 3 * k.val) :
    step s = deselectBank k s := by
  rw [step_of_encode quiet (here ▸ encode_seli k), exec_seli]

/-- One bank's part of the scan, from all lines `Idle` and back: `SELA(k)`, `SAMP(k)`, `SELI(k)`. -/
theorem runSteps_scanBank {s : State} (quiet : s.agenda = []) (idle : ∀ j : Fin 5, s.sel[j] = .idle) {k : Fin 5}
    {closed : Contacts} (fixed : s.contacts[k] = some closed) (here : s.seq.val = 47 + 3 * k.val) {q : SeqPos}
    (there : q.val = 50 + 3 * k.val) : runSteps 3 s = .next ((s.setBank k (closed.setWidth 8)).setSeq q) := by
  have lt : 50 + 3 * k.val < 71 := by omega
  obtain rfl : q = ⟨50 + 3 * k.val, lt⟩ := Fin.ext there
  have sela : step s = .next ((s.setLine k .active).setSeq ⟨48 + 3 * k.val, by omega⟩) := step_sela quiet here
  have samp : step ((s.setLine k .active).setSeq ⟨48 + 3 * k.val, by omega⟩) =
      .next (((s.setLine k .active).setBank k (closed.setWidth 8)).setSeq ⟨49 + 3 * k.val, by omega⟩) :=
    (step_samp (s := (s.setLine k .active).setSeq _) quiet rfl).trans (sampleBank_of_only (only_of_select idle k) fixed)
  have seli : step (((s.setLine k .active).setBank k (closed.setWidth 8)).setSeq ⟨49 + 3 * k.val, by omega⟩) =
      .next ((((s.setLine k .active).setLine k .idle).setBank k (closed.setWidth 8)).setSeq ⟨50 + 3 * k.val, lt⟩) :=
    step_seli (s := ((s.setLine k .active).setBank k _).setSeq _) quiet rfl
  rw [runSteps_succ 2 _ _ sela, runSteps_succ 1 _ _ samp, runSteps_succ 0 _ _ seli, setLine_idle_of_select (idle k)]
  rfl

/-- The scan of the first `n` banks: their bytes are their closed switches, and beside them only the position moves. -/
theorem runSteps_scanBanks {s : State} {closed : Fin 5 → Contacts} (quiet : s.agenda = [])
    (start : s.seq.val = 47) (idle : ∀ k : Fin 5, s.sel[k] = .idle)
    (fixed : ∀ k : Fin 5, s.contacts[k] = some (closed k)) (n : Nat) (le : n ≤ 5) :
    ∃ banks : BankBytes, runSteps (3 * n) s = .next ((s.setBtn banks).setSeq ⟨47 + 3 * n, by omega⟩) ∧
      ∀ k : Fin 5, k.val < n → banks[k] = (closed k).setWidth 8 := by
  induction n with
  | zero =>
    have here : s.setSeq 47 = s := by
      rw [← show s.seq = 47 from Fin.ext start]
      rfl
    exact ⟨s.btn, congrArg Host.Outcome.next here.symm, nofun⟩
  | succ n ih =>
    obtain ⟨banks, run, scanned⟩ := ih (by omega)
    have there : 47 + 3 * (n + 1) = 50 + 3 * n := by omega
    have next := runSteps_scanBank (s := (s.setBtn banks).setSeq ⟨47 + 3 * n, by omega⟩) (k := ⟨n, le⟩)
      (q := ⟨47 + 3 * (n + 1), by omega⟩) quiet idle (fixed ⟨n, le⟩) rfl there
    refine ⟨banks.set n ((closed ⟨n, le⟩).setWidth 8), (runSteps_add (3 * n) 3 s _ run).trans next, fun j lt => ?_⟩
    by_cases same : j = ⟨n, le⟩
    · rw [same]
      exact Vector.getElem_set_self le
    · have earlier : j.val ≠ n := fun e => same (Fin.ext e)
      exact (getElem_set_of_ne banks _ same).trans (scanned j (by omega))

/-- Settles O56: the scan of all five banks (`runSteps_scanBanks`). -/
theorem scanShowsTheClosedSwitches : Obligations.ScanShowsTheClosedSwitches := by
  intro s closed quiet start idle fixed
  obtain ⟨banks, run, scanned⟩ := runSteps_scanBanks quiet start idle fixed 5 le_rfl
  exact ⟨banks, run, fun k => scanned k k.isLt⟩

end Sys2Proof.Machine
end

section
/-! SUPPORT. The IRQ Handshake: its operations (R176 to R183), what a step of any agent does to the line, to `BC` and to the
bank registers (R186, R187), and the handshake over one undisturbed cycle (R182, R196). -/

namespace Sys2Proof.Machine

/-! ## The operations -/

/-- Settles O23: the line is released in the branch that finds `BC` = 1. -/
theorem acknowledgeReleasesTheLine : Obligations.AcknowledgeReleasesTheLine :=
  ⟨rfl, fun _ => (apply_ite Host.Outcome.next _ _ _).symm⟩

/-- Settles O24: `execAckcl` is the two updates. -/
theorem acknowledgeClearEndsTheRead : Obligations.AcknowledgeClearEndsTheRead :=
  ⟨rfl, fun _ => rfl⟩

/-- Settles O25: `State.snapshotChanged` asks for one differing byte. -/
theorem compareBranchesOnAnyByte : Obligations.CompareBranchesOnAnyByte := by
  refine ⟨rfl, fun s => ⟨fun differ => if_pos (decide_eq_true differ), fun agree => if_neg fun changed => ?_⟩⟩
  obtain ⟨k, differ⟩ := of_decide_eq_true changed
  exact differ (agree k)

/-- A bank register's offset is inside the file. -/
theorem bankOffset_lt (k : Fin 5) : (bankOffset k).toNat < 255 := by
  rw [bankOffset_toNat, show Config.btnBase = 8 from rfl]
  omega

/-- Settles O26: `writeBank` stores one byte, with the laws of `RegFile.write`. -/
theorem writeBackStoresOneBank : Obligations.WriteBackStoresOneBank := by
  refine fun k => ⟨encode_bwr k, fun s => ⟨s.rf.write (bankOffset k) s.btn[k], ?_, ?_, fun a other => ?_⟩⟩
  · rw [exec_bwr, writeBank, seqPos_eq_ofNat]
    rfl
  · exact RegFile.read_write_same s.rf (bankOffset k) s.btn[k] (bankOffset_lt k)
  · exact RegFile.read_write_other s.rf (bankOffset k) a s.btn[k] other

/-- Settles O27: `execIrqa` is the two updates. -/
theorem assertRaisesTheLine : Obligations.AssertRaisesTheLine :=
  ⟨rfl, fun _ => rfl⟩

/-- Settles O28: `execPbup` is the two updates. -/
theorem rememberCopiesTheBanks : Obligations.RememberCopiesTheBanks :=
  ⟨rfl, fun _ => rfl⟩

/-- Settles O32: the read leaves `BC` = 1 (`execHrd_cases`), and `ACK` asks for nothing else. -/
theorem anyBankReadAcknowledges : Obligations.AnyBankReadAcknowledges := by
  intro off unused s low high
  have bank : isBankOffset off = true := Bool.and_eq_true_iff.mpr ⟨decide_eq_true low, decide_eq_true high⟩
  obtain ⟨v, d, read, -⟩ := execHrd_cases off unused s
  exact ⟨_, read, rfl, if_pos (Bool.or_eq_true_iff.mpr (.inr bank))⟩

/-! ## What a step does to the handshake -/

/-- The line, `BC`, `PBTN` and the bank registers are in `t` as they were in `s`. -/
structure HandshakeFrame (s t : State) : Prop where
  irq : t.irq = s.irq := by rfl
  bc : t.bc = s.bc := by rfl
  pbtn : t.pbtn = s.pbtn := by rfl
  banks : ∀ k : Fin 5, t.rf[8 + k.val] = s.rf[8 + k.val] := by exact fun _ => rfl

theorem HandshakeFrame.refl (s : State) : HandshakeFrame s s := {}

theorem HandshakeFrame.trans {s t u : State} (first : HandshakeFrame s t) (second : HandshakeFrame t u) :
    HandshakeFrame s u where
  irq := second.irq.trans first.irq
  bc := second.bc.trans first.bc
  pbtn := second.pbtn.trans first.pbtn
  banks k := (second.banks k).trans (first.banks k)

/-- The two version bytes are no bank registers. -/
theorem HandshakeFrame.of_version (s : State) {off : Offset} (low : off.toNat < 2) (v : Byte) (p : SeqPos) :
    HandshakeFrame s ((s.storeRf off v).setSeq p) where
  banks _ := (s.rf.write_getElem off v _ (by omega)).trans (if_neg (by omega))

/-- What a step of the Loop agent makes of `s`, as the handshake sees it: the operations of phase 2 and of the second half
of phase 5 one by one, `SHDW`, and every other one by its frame and the position it moves to. -/
inductive HandshakeMove (s : State) : State → Prop
  | elsewhere {t : State} (q : Nat) (there : t.seq.val = q)
      (onward : s.seq.val < q ∧ (q ≤ 2 ∨ 4 ≤ s.seq.val ∧ q ≤ 62)) (frame : HandshakeFrame s t) : HandshakeMove s t
  | release (here : s.seq.val = 2) (read : s.bc = true) : HandshakeMove s (s.releaseIrq.setSeq 3)
  | pass (here : s.seq.val = 2) : HandshakeMove s (s.setSeq 4)
  | consumed (here : s.seq.val = 3) : HandshakeMove s (s.clearConsumed.setSeq 4)
  | changed (here : s.seq.val = 62) : HandshakeMove s (s.setSeq 63)
  | unchanged (here : s.seq.val = 62) (same : s.btn = s.pbtn) : HandshakeMove s (s.setSeq 69)
  | writeBack (k : Fin 5) (here : s.seq.val = 63 + k.val) :
      HandshakeMove s ((s.storeRf (bankOffset k) s.btn[k]).setSeq ⟨64 + k.val, by omega⟩)
  | raise (here : s.seq.val = 68) : HandshakeMove s (s.assertIrq.setSeq 69)
  | remember (here : s.seq.val = 69) : HandshakeMove s ((s.setPbtn s.btn).setSeq 70)
  | shadow (here : s.seq.val = 70) : HandshakeMove s ((s.setPrev s.cur).setSeq 0)

/-- Every step of the Loop agent is one of these moves: by its micro-operation, in the order of `step_loop_cases`. -/
theorem handshakeMove_of_step {s t : State} (next : s.pending = .loop) (answers : step s = .next t) :
    HandshakeMove s.consume t := by
  have moves := step_loop_cases s next
  rw [answers, ← State.consume_seq] at moves
  generalize s.consume = s at moves ⊢
  rcases moves with ⟨p, run⟩ | ⟨p, run⟩ | ⟨p, run⟩ | ⟨p, run⟩ | ⟨i, p, run⟩ | ⟨i, p, run⟩ | ⟨p, run⟩ | ⟨p, run⟩ |
    ⟨p, run⟩ | ⟨k, p, run⟩ | ⟨k, p, run⟩ | ⟨k, p, run⟩ | ⟨p, run⟩ | ⟨k, p, run⟩ | ⟨p, run⟩ | ⟨p, run⟩ | ⟨p, run⟩
  · unfold execRfsh at run
    split at run <;> cases run
    · exact .elsewhere 1 rfl (by omega) {}
    · exact .elsewhere 2 rfl (by omega) {}
  · cases run; exact .elsewhere 2 rfl (by omega) {}
  · unfold execAck at run
    split at run <;> cases run
    · exact .release p ‹_›
    · exact .pass p
  · cases run; exact .consumed p
  · unfold lampOn at run
    split at run <;> cases run
    · exact .elsewhere (5 + 2 * i.val) rfl (by omega) {}
    · exact .elsewhere (6 + 2 * i.val) rfl (by omega) {}
  · cases run; exact .elsewhere (6 + 2 * i.val) rfl (by omega) {}
  · cases run; exact .elsewhere 45 rfl (by omega) {}
  · cases run; exact .elsewhere 46 rfl (by omega) (.of_version s (by decide) versionLow 46)
  · cases run; exact .elsewhere 47 rfl (by omega) (.of_version s (by decide) versionHigh 47)
  · cases run; exact .elsewhere (48 + 3 * k.val) rfl (by omega) {}
  · obtain ⟨d, after⟩ := afterSense_eq s
    rw [sampleBank, after] at run
    cases run; exact .elsewhere (49 + 3 * k.val) rfl (by omega) {}
  · cases run; exact .elsewhere (50 + 3 * k.val) rfl (by omega) {}
  · unfold execBcmp at run
    split at run <;> cases run
    · exact .changed p
    · exact .unchanged p (not_not.mp fun differ => ‹¬ _› ((snapshotChanged_iff s).mpr differ))
  · cases run; exact .writeBack k p
  · cases run; exact .raise p
  · cases run; exact .remember p
  · cases run; exact .shadow p

/-- What a step of the Host or the Panel agent leaves alone of the handshake, the switches and the position. -/
structure BystanderFrame (s t : State) : Prop where
  irq : t.irq = s.irq := by rfl
  btn : t.btn = s.btn := by rfl
  pbtn : t.pbtn = s.pbtn := by rfl
  seq : t.seq = s.seq := by rfl
  bc : t.bc = true → s.bc = true ∨ s.pending.readsBank = true := by exact .inl
  banks : s.pending.writesBank = false → ∀ k : Fin 5, t.rf[8 + k.val] = s.rf[8 + k.val] := by exact fun _ _ => rfl

/-- A write word is a write to the bank registers by its offset. -/
theorem writesBank_eventWord (off : Offset) (val : Byte) :
    (Stimulus.host (eventWord 0 off val)).writesBank = isBankOffset off := by
  simp only [Stimulus.writesBank, decodeEvent_eventWord, if_true]

/-- A read word is a read of the bank registers by its offset. -/
theorem readsBank_eventWord (off : Offset) (b : Byte) :
    (Stimulus.host (eventWord 2 off b)).readsBank = isBankOffset off := by
  rw [Stimulus.readsBank, show decodeEvent (eventWord 2 off b) = .ok (.hrd off b) from decodeEvent_eventWord 2 off b]

/-- A store outside the offsets 8 to 12 leaves the bank registers alone. -/
theorem write_getElem_bank (m : RegFile) {off : Offset} (v : Byte) (other : isBankOffset off = false) (k : Fin 5) :
    (m.write off v)[8 + k.val] = m[8 + k.val] := by
  rw [RegFile.write_getElem, if_neg]
  intro bank
  simp only [isBankOffset, bank, Bool.and_eq_false_iff, decide_eq_false_iff_not] at other
  omega

/-- Every step of the Host and the Panel agent has this frame. -/
theorem bystanderFrame_of_step {s t : State} (notLoop : s.pending ≠ .loop) (notReset : s.pending ≠ .rst)
    (answers : step s = .next t) : BystanderFrame s t := by
  cases next : s.pending with
  | loop => exact absurd next notLoop
  | rst => exact absurd next notReset
  | panel k closed =>
    cases (step_of_panel s k closed next).symm.trans answers
    exact {}
  | host word =>
    rcases step_host_cases s word next with ⟨off, val, rfl, run⟩ | ⟨off, len, -, run⟩ | ⟨off, b, rfl, run⟩ |
      ⟨a, b, -, run⟩
    · cases run.symm.trans answers
      refine { banks := fun other => ?_ }
      rw [next, writesBank_eventWord] at other
      exact write_getElem_bank s.rf val other
    · cases run.symm.trans answers
      exact {}
    · obtain ⟨v, d, read, -⟩ := execHrd_cases off b s.consume
      cases (run.trans read).symm.trans answers
      refine { bc := fun rises => ?_ }
      rw [next, readsBank_eventWord]
      exact Bool.or_eq_true_iff.mp rises
    · cases run.symm.trans answers

/-! ## The bank registers follow the scanner -/

/-- Before the first `BWR` is done every bank register holds the previous snapshot. -/
theorem banksTrack_iff_of_before {s : State} (before : s.seq.val ≤ 63) :
    s.banksTrack ↔ ∀ k : Fin 5, s.rf[8 + k.val] = s.pbtn[k] :=
  forall_congr' fun k => by rw [if_neg (by omega)]

/-- After the last `BWR` every bank register holds the new one. -/
theorem banksTrack_iff_of_after {s : State} (after : 68 ≤ s.seq.val) :
    s.banksTrack ↔ ∀ k : Fin 5, s.rf[8 + k.val] = s.btn[k] :=
  forall_congr' fun k => by rw [if_pos (by omega)]

/-- What a store to bank register `k` leaves in bank register `j`. -/
theorem write_bankOffset_getElem (m : RegFile) (k j : Fin 5) (v : Byte) :
    (m.write (bankOffset k) v)[8 + j.val] = if k = j then v else m[8 + j.val] := by
  rw [RegFile.write_getElem, bankOffset_toNat, show Config.btnBase = 8 from rfl]
  exact if_congr (by omega) rfl rfl

/-- The step of the Loop agent: up to `BCMP` the banks stay with `PBTN`, `BWR(k)` moves bank `k` over to `BTN`, from there on
all five stay with `BTN`, which the cycle's boundary finds equal to `PBTN`. -/
theorem HandshakeMove.banksTrack {s t : State} (move : HandshakeMove s t)
    (settled : s.seq.val = 70 → s.btn = s.pbtn) (track : s.banksTrack) : t.banksTrack := by
  have before (le : s.seq.val ≤ 63) := (banksTrack_iff_of_before le).mp track
  have after (le : 68 ≤ s.seq.val) := (banksTrack_iff_of_after le).mp track
  cases move with
  | elsewhere q there onward frame =>
    refine (banksTrack_iff_of_before (by omega)).mpr fun k => ?_
    rw [frame.banks k, frame.pbtn]
    exact before (by omega) k
  | release here => exact (banksTrack_iff_of_before (show 3 ≤ 63 by decide)).mpr (before (by omega))
  | pass here => exact (banksTrack_iff_of_before (show 4 ≤ 63 by decide)).mpr (before (by omega))
  | consumed here => exact (banksTrack_iff_of_before (show 4 ≤ 63 by decide)).mpr (before (by omega))
  | changed here => exact (banksTrack_iff_of_before (show 63 ≤ 63 by decide)).mpr (before (by omega))
  | unchanged here same =>
    refine (banksTrack_iff_of_after (show 68 ≤ 69 by decide)).mpr fun k => ?_
    exact (before (by omega) k).trans (congrArg (·[k]) same.symm)
  | writeBack k here =>
    intro j
    have old := track j
    show (s.rf.write (bankOffset k) s.btn[k])[8 + j.val] = if 64 + j.val ≤ 64 + k.val then s.btn[j] else s.pbtn[j]
    rw [write_bankOffset_getElem, old, here]
    by_cases own : k = j
    · subst own
      rw [if_pos rfl, if_pos le_rfl]
    · rw [if_neg own]
      exact if_congr (by omega) rfl rfl
  | raise here => exact (banksTrack_iff_of_after (show 68 ≤ 69 by decide)).mpr (after (by omega))
  | remember here => exact (banksTrack_iff_of_after (show 68 ≤ 70 by decide)).mpr (after (by omega))
  | shadow here =>
    refine (banksTrack_iff_of_before (show 0 ≤ 63 by decide)).mpr fun k => ?_
    exact (after (by omega) k).trans (congrArg (·[k]) (settled here))

/-- A step of another agent that writes no bank register leaves both sides as they were. -/
theorem BystanderFrame.banksTrack {s t : State} (frame : BystanderFrame s t) (noWrite : s.pending.writesBank = false)
    (track : s.banksTrack) : t.banksTrack := by
  intro k
  rw [frame.banks noWrite k, frame.seq, frame.btn, frame.pbtn]
  exact track k

/-- Every step but a host write to a bank register keeps the banks with the scanner. -/
theorem banksTrack_of_step {s t : State} (inv : s.Inv) (track : s.banksTrack) (noWrite : s.pending.writesBank = false)
    (answers : step s = .next t) : t.banksTrack := by
  by_cases loop : s.pending = .loop
  · exact (handshakeMove_of_step loop answers).banksTrack (fun last => inv.settled (.inr last)) track
  by_cases reset : s.pending = .rst
  · cases (step_of_rst s reset).symm.trans answers
    exact invariantsHoldAfterReset.2
  · exact (bystanderFrame_of_step loop reset answers).banksTrack noWrite track

/-- Settles O41: the relation is kept (`banksTrack_of_step`), and at the boundary the two snapshots are equal
(`State.Inv.settled`), so whichever a bank register follows it holds both. -/
theorem bankRegistersFollowTheScanner : Obligations.BankRegistersFollowTheScanner := by
  intro s t inv track noWrite answers
  have after : t.banksTrack := banksTrack_of_step inv track noWrite answers
  refine ⟨after, fun boundary k => ?_⟩
  have same : t.btn = t.pbtn := (everyStepKeepsTheCycle s t inv answers).settled (by omega)
  have held : t.rf[8 + k.val] = t.btn[k] := by rw [after k, same, ite_self]
  exact ⟨(t.rf.read_ofNat (by omega)).trans (congrArg some held), congrArg (·[k]) same⟩

/-! ## Who moves the line -/

/-- The line stays, or `IRQA` raises it, or an `ACK` that finds `BC` = 1 or the reset event releases it. -/
theorem irq_of_step {s t : State} (answers : step s = .next t) :
    t.irq = s.irq ∨ (t.irq = .asserted ∧ s.pending = .loop ∧ s.seq.val = 68) ∨
    (t.irq = .deasserted ∧ (s.pending = .loop ∧ s.seq.val = 2 ∧ s.bc = true ∨ s.pending = .rst)) := by
  by_cases loop : s.pending = .loop
  · cases handshakeMove_of_step loop answers with
    | elsewhere q there onward frame => exact .inl frame.irq
    | release here read => exact .inr (.inr ⟨rfl, .inl ⟨loop, here, read⟩⟩)
    | raise here => exact .inr (.inl ⟨rfl, loop, here⟩)
    | pass | consumed | changed | unchanged | writeBack | remember | shadow => exact .inl rfl
  by_cases reset : s.pending = .rst
  · cases (step_of_rst s reset).symm.trans answers
    exact .inr (.inr ⟨rfl, .inr reset⟩)
  · exact .inl (bystanderFrame_of_step loop reset answers).irq

/-- `BC` rises only by a host read of a bank register (R28, R212). -/
theorem bc_of_step {s t : State} (answers : step s = .next t) (rises : t.bc = true) :
    s.bc = true ∨ s.pending.readsBank = true := by
  by_cases loop : s.pending = .loop
  · exact .inl ((loopFrame_of_step loop answers).bc rises)
  by_cases reset : s.pending = .rst
  · cases (step_of_rst s reset).symm.trans answers
    cases rises
  · exact (bystanderFrame_of_step loop reset answers).bc rises

/-- Settles O47, from `irq_of_step` and `bc_of_step`. -/
theorem lineMovesOnlyInTheHandshake : Obligations.LineMovesOnlyInTheHandshake := by
  intro s t answers
  refine ⟨fun idle raised => ?_, fun raised idle => ?_, fun unread read => ?_⟩
  · rcases irq_of_step answers with same | ⟨-, cause⟩ | ⟨released, -⟩
    · cases raised.symm.trans (same.trans idle)
    · exact cause
    · cases raised.symm.trans released
  · rcases irq_of_step answers with same | ⟨asserted, -⟩ | ⟨-, cause⟩
    · cases idle.symm.trans (same.trans raised)
    · cases idle.symm.trans asserted
    · exact cause
  · rcases bc_of_step answers read with before | cause
    · cases unread.symm.trans before
    · exact cause

/-! ## The handshake over one cycle -/

/-- `n` steps lead from `s` to `t` and never to position 0. -/
structure Advances (n : Nat) (s t : State) : Prop where
  run : runSteps n s = .next t
  away : ∀ j : Nat, 0 < j → j ≤ n → ∃ v : State, runSteps j s = .next v ∧ v.seq.val ≠ 0

namespace Advances

theorem refl (s : State) : Advances 0 s s := ⟨rfl, fun _ pos le => absurd le (by omega)⟩

theorem one {s t : State} (answers : step s = .next t) (away : t.seq.val ≠ 0) : Advances 1 s t := by
  have run : runSteps 1 s = .next t := runSteps_succ 0 s t answers
  refine ⟨run, fun j pos le => ?_⟩
  obtain rfl : j = 1 := by omega
  exact ⟨t, run, away⟩

theorem trans {m n : Nat} {s t u : State} (first : Advances m s t) (second : Advances n t u) :
    Advances (m + n) s u := by
  refine ⟨(runSteps_add m n s t first.run).trans second.run, fun j pos le => ?_⟩
  by_cases early : j ≤ m
  · exact first.away j pos early
  · obtain ⟨v, run, away⟩ := second.away (j - m) (by omega) (by omega)
    have late := runSteps_add m (j - m) s t first.run
    rw [Nat.add_sub_of_le (by omega)] at late
    exact ⟨v, late.trans run, away⟩

/-- With nothing on the agenda, nothing comes onto it. -/
theorem quiet {n : Nat} {s t : State} (way : Advances n s t) (quiet : s.agenda = []) : t.agenda = [] := by
  refine runSteps_keeps (P := fun u => u.agenda = []) (fun u v nil answers => ?_) quiet way.run
  rw [step_agenda answers, nil, List.tail_nil]

end Advances

/-- Undisturbed, the Loop agent steps. -/
theorem loop_completes {s : State} (quiet : s.agenda = []) : ∃ t, step s = .next t := by
  obtain ⟨t, answers⟩ := step_choose_completes s .loop nofun
  refine ⟨t, Eq.trans ?_ answers⟩
  cases s
  cases quiet
  rfl

/-- Undisturbed, the Loop agent comes from position 0 or 1 to `ACK`, and from 4 or above to `BCMP`, and touches nothing of
the handshake on the way. -/
theorem advances_elsewhere {s : State} (quiet : s.agenda = []) {q : Nat} (le : s.seq.val ≤ q)
    (stretch : q = 2 ∨ 4 ≤ s.seq.val ∧ q = 62) :
    ∃ n t, Advances n s t ∧ t.seq.val = q ∧ HandshakeFrame s t := by
  by_cases arrived : s.seq.val = q
  · exact ⟨0, s, .refl s, arrived, .refl s⟩
  obtain ⟨t, answers⟩ := loop_completes quiet
  have move := handshakeMove_of_step (pending_of_agenda_nil quiet) answers
  rw [consume_of_agenda_nil quiet] at move
  cases move with
  | elsewhere p there onward frame =>
    have first : Advances 1 s t := .one answers (by omega)
    obtain ⟨n, u, rest, last, frame'⟩ := advances_elsewhere (first.quiet quiet) (q := q) (by omega) (by omega)
    exact ⟨1 + n, u, first.trans rest, last, frame.trans frame'⟩
  | _ => omega
termination_by q - s.seq.val

/-- Phase 2: the line is released if `BC` was set, and `BC` is 0 after it. -/
theorem advances_acknowledge {s : State} (quiet : s.agenda = []) (here : s.seq.val = 2) :
    ∃ n t, Advances n s t ∧ t.seq.val = 4 ∧ t.irq = (if s.bc then .deasserted else s.irq) ∧ t.bc = false ∧
      t.rf = s.rf := by
  have ack : step s = execAck s := step_of_encode (i := .ack) quiet (by rw [here]; rfl)
  by_cases read : s.bc = true
  · have release : step s = .next (s.releaseIrq.setSeq 3) := ack.trans (if_pos read)
    have clear : step (s.releaseIrq.setSeq 3) = .next ((s.releaseIrq.setSeq 3).clearConsumed.setSeq 4) :=
      step_of_encode (i := .ackcl) quiet rfl
    exact ⟨2, _, (Advances.one release nofun).trans (.one clear nofun), rfl, (if_pos read).symm, rfl, rfl⟩
  · have pass : step s = .next (s.setSeq 4) := ack.trans (if_neg read)
    exact ⟨1, _, .one pass nofun, rfl, (if_neg read).symm, Bool.eq_false_iff.mpr read, rfl⟩

/-- Undisturbed, position `63 + k` runs `BWR(k)` (R101). -/
theorem step_bwr {s : State} (quiet : s.agenda = []) {k : Fin 5} (here : s.seq.val = 63 + k.val) :
    step s = writeBank k s := by
  rw [step_of_encode quiet (here ▸ encode_bwr k), exec_bwr]

/-- The write-back of the first `n` banks: beside their registers only the position moves. -/
theorem advances_writeBanks {s : State} (quiet : s.agenda = []) (n : Nat) (le : n ≤ 5) :
    ∃ m : RegFile, Advances n (s.setSeq 63) ((s.setRf m).setSeq ⟨63 + n, by omega⟩) ∧
      ∀ k : Fin 5, k.val < n → m[8 + k.val] = s.btn[k] := by
  induction n with
  | zero => exact ⟨s.rf, .refl _, nofun⟩
  | succ n ih =>
    obtain ⟨m, way, written⟩ := ih (by omega)
    have there : (⟨63 + (n + 1), by omega⟩ : SeqPos) = ⟨64 + n, by omega⟩ :=
      Fin.ext (show 63 + (n + 1) = 64 + n by omega)
    have bwr : step ((s.setRf m).setSeq ⟨63 + n, by omega⟩) =
        .next ((s.setRf (m.write (bankOffset ⟨n, le⟩) s.btn[n])).setSeq ⟨64 + n, by omega⟩) :=
      step_bwr (s := (s.setRf m).setSeq _) quiet (k := ⟨n, le⟩) rfl
    rw [there]
    refine ⟨_, way.trans (.one bwr (show 64 + n ≠ 0 by omega)), fun k lt => ?_⟩
    rw [write_bankOffset_getElem]
    by_cases own : (⟨n, le⟩ : Fin 5) = k
    · subst own
      exact if_pos rfl
    · have earlier : k.val ≠ n := fun same => own (Fin.ext same.symm)
      exact (if_neg own).trans (written k (by omega))

/-- From `BCMP` to `PBUP`: where a change is found all five banks are written and the line is asserted, else neither. -/
theorem advances_detect {s : State} (quiet : s.agenda = []) (here : s.seq.val = 62) :
    ∃ n t, Advances n s t ∧ t.seq.val = 69 ∧ t.irq = (if s.snapshotChanged then .asserted else s.irq) ∧ t.bc = s.bc ∧
      t.btn = s.btn ∧ ∀ k : Fin 5, t.rf[8 + k.val] = if s.snapshotChanged then s.btn[k] else s.rf[8 + k.val] := by
  have bcmp : step s = execBcmp s := step_of_encode (i := .bcmp) quiet (by rw [here]; rfl)
  by_cases changed : s.snapshotChanged = true
  · have found : step s = .next (s.setSeq 63) := bcmp.trans (if_pos changed)
    obtain ⟨m, way, written⟩ := advances_writeBanks quiet 5 le_rfl
    have irqa : step ((s.setRf m).setSeq 68) = .next (((s.setRf m).setSeq 68).assertIrq.setSeq 69) :=
      step_of_encode (i := .irqa) quiet rfl
    refine ⟨_, _, ((Advances.one found nofun).trans way).trans (.one irqa nofun), rfl, (if_pos changed).symm, rfl, rfl,
      fun k => ?_⟩
    rw [if_pos changed]
    exact written k k.isLt
  · have skip : step s = .next (s.setSeq 69) := bcmp.trans (if_neg changed)
    exact ⟨1, _, .one skip nofun, rfl, (if_neg changed).symm, rfl, rfl, fun k => (if_neg changed).symm⟩

/-- Settles O54, stretch by stretch: to `ACK` and from phase 2 to `BCMP` (`advances_elsewhere`), phase 2
(`advances_acknowledge`), from `BCMP` to `PBUP` (`advances_detect`), then `PBUP` and `SHDW`. -/
theorem handshakeOverOneCycle : Obligations.HandshakeOverOneCycle := by
  intro s quiet start
  obtain ⟨a, s₂, way₂, here₂, frame₂⟩ := advances_elsewhere quiet (q := 2) (by omega) (by omega)
  obtain ⟨b, s₄, way₄, here₄, irq₄, bc₄, rf₄⟩ := advances_acknowledge (way₂.quiet quiet) here₂
  have way₄ := way₂.trans way₄
  obtain ⟨c, u, wayU, hereU, frameU⟩ := advances_elsewhere (way₄.quiet quiet) (q := 62) (by omega) (by omega)
  have wayU := way₄.trans wayU
  obtain ⟨d, v, wayV, hereV, irqV, bcV, btnV, banksV⟩ := advances_detect (wayU.quiet quiet) hereU
  have quietV := wayV.quiet (wayU.quiet quiet)
  have pbup : step v = .next ((v.setPbtn v.btn).setSeq 70) :=
    step_of_encode (i := .pbup) quietV (by rw [hereV]; rfl)
  have shdw : step ((v.setPbtn v.btn).setSeq 70) =
      .next ((((v.setPbtn v.btn).setSeq 70).setPrev v.cur).setSeq 0) := step_of_encode (i := .shdw) quietV rfl
  have round := (wayU.trans wayV).trans (.one pbup nofun)
  refine ⟨a + b + c, a + b + c + d + 1 + 1, u, _, by omega, wayU.run, hereU,
    (runSteps_add _ 1 s _ round.run).trans (runSteps_succ 0 _ _ shdw), rfl,
    fun j pos lt => round.away j pos (by omega), ?_, irqV, bcV.trans (frameU.bc.trans bc₄), btnV, btnV, fun k => ?_⟩
  · rw [frameU.irq, irq₄, frame₂.bc, frame₂.irq]
  · have old : u.rf[8 + k.val] = s.rf[8 + k.val] := by rw [frameU.banks k, rf₄, frame₂.banks k]
    rw [RegFile.read_ofNat s.rf (by omega), ← old, ← apply_ite some, ← banksV k]
    exact RegFile.read_ofNat v.rf (by omega)

end Sys2Proof.Machine
end

section
/-! SUPPORT. The Loop Orchestrator: the successor of every position (R192, R193) and the length of a cycle (R198). -/

namespace Sys2Proof.Machine

/-! ## The successor of every position -/

/-- The positions with one successor, the next one: not the four branches of R193, and not the last. -/
abbrev Straight (p : Nat) : Prop := p = 1 ∨ p = 3 ∨ (4 < p ∧ p < 44 ∧ p % 2 = 1) ∨ (44 ≤ p ∧ p < 70 ∧ p ≠ 62)

/-- Where a step of the Loop agent from `s` moves the sequencer: the table of R193. -/
inductive SeqMove (s t : State) : Prop
  | refresh (here : s.seq.val = 0) (there : t.seq.val = if s.rc then 1 else 2)
  | acknowledge (here : s.seq.val = 2) (there : t.seq.val = if s.bc then 3 else 4)
  | lamp (i : Fin 20) (here : s.seq.val = 4 + 2 * i.val)
      (there : t.seq.val = if (lampMask s.cur).getLsbD i.val then 5 + 2 * i.val else 6 + 2 * i.val)
  | compare (here : s.seq.val = 62) (there : t.seq.val = if s.snapshotChanged then 63 else 69)
  | wrap (here : s.seq.val = 70) (there : t.seq.val = 0)
  | onward (q : Nat) (there : t.seq.val = q) (next : Straight s.seq.val ∧ q = s.seq.val + 1)

/-- A branch leads to the position of the side taken. -/
theorem seq_of_ite {c : Prop} [Decidable c] {a b t : State}
    (run : (.next t : Host.Outcome State Fault Refusal) = if c then .next a else .next b) :
    t.seq.val = if c then a.seq.val else b.seq.val := by
  rw [← apply_ite Host.Outcome.next] at run
  cases run
  exact apply_ite (fun u : State => u.seq.val) c a b

/-- Every step of the Loop agent is one of these moves: by its micro-operation, in the order of `step_loop_cases`. -/
theorem seqMove_of_step {s t : State} (next : s.pending = .loop) (answers : step s = .next t) : SeqMove s t := by
  have moves := step_loop_cases s next
  rw [answers] at moves
  rcases moves with ⟨p, run⟩ | ⟨p, run⟩ | ⟨p, run⟩ | ⟨p, run⟩ | ⟨i, p, run⟩ | ⟨i, p, run⟩ | ⟨p, run⟩ | ⟨p, run⟩ |
    ⟨p, run⟩ | ⟨k, p, run⟩ | ⟨k, p, run⟩ | ⟨k, p, run⟩ | ⟨p, run⟩ | ⟨k, p, run⟩ | ⟨p, run⟩ | ⟨p, run⟩ | ⟨p, run⟩
  · exact .refresh p (seq_of_ite run)
  · cases run; exact .onward 2 rfl (by omega)
  · exact .acknowledge p (seq_of_ite run)
  · cases run; exact .onward 4 rfl (by omega)
  · exact .lamp i p (seq_of_ite run)
  · cases run; exact .onward (6 + 2 * i.val) rfl (by omega)
  · cases run; exact .onward 45 rfl (by omega)
  · cases run; exact .onward 46 rfl (by omega)
  · cases run; exact .onward 47 rfl (by omega)
  · cases run; exact .onward (48 + 3 * k.val) rfl (by omega)
  · cases run; exact .onward (49 + 3 * k.val) rfl (by omega)
  · cases run; exact .onward (50 + 3 * k.val) rfl (by omega)
  · exact .compare p (seq_of_ite run)
  · cases run; exact .onward (64 + k.val) rfl (by omega)
  · cases run; exact .onward 69 rfl (by omega)
  · cases run; exact .onward 70 rfl (by omega)
  · cases run; exact .wrap p rfl

/-- Settles O38: each clause picks its row of the table (`SeqMove`), the positions of the other rows are others. -/
theorem successorOfEveryPosition : Obligations.SuccessorOfEveryPosition := by
  intro s quiet
  obtain ⟨t, answers⟩ := loop_completes quiet
  have move := seqMove_of_step (pending_of_agenda_nil quiet) answers
  refine ⟨t, answers, fun here => ?_, fun here => ?_, fun i here => ?_, fun here differ => ?_, fun here agree => ?_,
    fun here => ?_, fun straight => ?_⟩
  · cases move with | refresh _ there => exact there | _ => omega
  · cases move with | acknowledge _ there => exact there | _ => omega
  · cases move with
    | lamp j here' there =>
      obtain rfl : j = i := Fin.ext (by omega)
      exact there
    | _ => omega
  · cases move with | compare _ there => exact there.trans (if_pos (decide_eq_true differ)) | _ => omega
  · have same : s.snapshotChanged = false := decide_eq_false fun ⟨k, differ⟩ => differ (agree k)
    cases move with | compare _ there => exact there.trans (if_neg (Bool.eq_false_iff.mp same)) | _ => omega
  · cases move with | wrap _ there => exact there | _ => omega
  · simp only [List.mem_cons, List.not_mem_nil, or_false] at straight
    cases move with | onward _ there next => omega | _ => omega

/-! ## The length of a cycle -/

/-- Phase 1: where `RC` was set the snapshot is refreshed, and `RC` is 0 after it; one step more then. -/
theorem advances_refresh {s : State} (quiet : s.agenda = []) (here : s.seq.val = 0) :
    ∃ t, Advances (1 + s.rc.toNat) s t ∧ t.seq.val = 2 ∧ t.cur = (if s.rc then s.rf else s.cur) ∧ t.rc = false ∧
      t.bc = s.bc := by
  have rfsh : step s = execRfsh s := step_of_encode (i := .rfsh) quiet (by rw [here]; rfl)
  cases changed : s.rc with
  | true =>
    have copy : step s = .next ((s.setCur s.rf).setSeq 1) := rfsh.trans (if_pos changed)
    have clear : step ((s.setCur s.rf).setSeq 1) = .next (((s.setCur s.rf).setSeq 1).clearChanged.setSeq 2) :=
      step_of_encode (i := .rfcl) quiet rfl
    exact ⟨_, (Advances.one copy nofun).trans (.one clear nofun), rfl, rfl, rfl, rfl⟩
  | false =>
    have pass : step s = .next (s.setSeq 2) := rfsh.trans (if_neg (Bool.eq_false_iff.mp changed))
    exact ⟨_, .one pass nofun, rfl, rfl, changed, rfl⟩

/-- Undisturbed, a stretch of positions with one successor takes one step each. -/
theorem advances_straight {s : State} (quiet : s.agenda = []) (n : Nat)
    (straight : ∀ j < n, Straight (s.seq.val + j)) : ∃ t, Advances n s t ∧ t.seq.val = s.seq.val + n := by
  induction n with
  | zero => exact ⟨s, .refl s, rfl⟩
  | succ n ih =>
    obtain ⟨t, way, there⟩ := ih fun j lt => straight j (by omega)
    have last := straight n n.lt_succ_self
    obtain ⟨u, answers, -, -, -, -, -, -, onward⟩ := successorOfEveryPosition t (way.quiet quiet)
    have next : u.seq.val = t.seq.val + 1 := onward (by
      simp only [List.mem_cons, List.not_mem_nil, or_false]
      omega)
    exact ⟨u, way.trans (.one answers (by omega)), by omega⟩

/-- A branch that goes to `r`, or there by way of the position before, takes one step, or two. -/
theorem advances_branch {s t : State} (quiet : s.agenda = []) (answers : step s = .next t) {q r : Nat} {taken : Bool}
    (there : t.seq.val = if taken then q else r) (rejoin : Straight q ∧ r = q + 1) :
    ∃ u, Advances (1 + taken.toNat) s u ∧ u.seq.val = r := by
  have first : Advances 1 s t := .one answers (by split at there <;> omega)
  cases taken with
  | false => exact ⟨t, first, there⟩
  | true =>
    have there : t.seq.val = q := there
    obtain ⟨u, rest, last⟩ := advances_straight (first.quiet quiet) 1 (by omega)
    exact ⟨u, first.trans rest, by omega⟩

/-- An undisturbed run that finds `RC` = 0 keeps `CUR` and `RC` (`refreshIsIdempotent`). -/
theorem Advances.cur {n : Nat} {s t : State} (way : Advances n s t) (quiet : s.agenda = []) (unchanged : s.rc = false) :
    t.cur = s.cur ∧ t.rc = false :=
  refreshIsIdempotent n s t unchanged (by rw [quiet]; nofun) way.run

/-- The count below `n + 1` is the count below `n`, and one more if `n` itself counts. -/
theorem countP_finRange_succ (f : Nat → Bool) (n : Nat) :
    ((List.finRange (n + 1)).countP fun i => f i.val) = ((List.finRange n).countP fun i => f i.val) + (f n).toNat := by
  rw [List.finRange_succ_last, List.countP_append, List.countP_map, List.countP_singleton, Fin.val_last]
  cases f n <;> rfl

/-- The first `n` lamps of the pass: a step each, and one more for each that is requested (R147, R148). -/
theorem advances_lamps {s : State} (quiet : s.agenda = []) (unchanged : s.rc = false) (here : s.seq.val = 4) (n : Nat)
    (le : n ≤ 20) :
    ∃ t, Advances (n + (List.finRange n).countP fun i => (lampMask s.cur).getLsbD i.val) s t ∧
      t.seq.val = 4 + 2 * n := by
  induction n with
  | zero => exact ⟨s, .refl s, here⟩
  | succ n ih =>
    obtain ⟨t, way, there⟩ := ih (by omega)
    obtain ⟨cur, -⟩ := way.cur quiet unchanged
    obtain ⟨u, answers, -, -, lamp, -⟩ := successorOfEveryPosition t (way.quiet quiet)
    have branch : u.seq.val = if (lampMask s.cur).getLsbD n then 5 + 2 * n else 6 + 2 * n := cur ▸ lamp ⟨n, le⟩ there
    obtain ⟨v, rest, last⟩ := advances_branch (way.quiet quiet) answers branch (by omega)
    rw [countP_finRange_succ, Nat.add_add_add_comm]
    exact ⟨v, way.trans rest, by omega⟩

/-- From `BCMP` to `PBUP`: one step, and six more for a change (R176 to R178). -/
theorem advances_compare {s : State} (quiet : s.agenda = []) (here : s.seq.val = 62) :
    ∃ t, Advances (1 + 6 * s.snapshotChanged.toNat) s t ∧ t.seq.val = 69 := by
  obtain ⟨t, answers, -, -, -, differ, agree, -⟩ := successorOfEveryPosition s quiet
  cases changed : s.snapshotChanged with
  | true =>
    have there : t.seq.val = 63 := differ here (of_decide_eq_true changed)
    have first : Advances 1 s t := .one answers (by omega)
    obtain ⟨u, rest, last⟩ := advances_straight (first.quiet quiet) 6 (by omega)
    exact ⟨u, first.trans rest, by omega⟩
  | false =>
    have there : t.seq.val = 69 := agree here (by simpa using of_decide_eq_false changed)
    exact ⟨t, .one answers (by omega), there⟩

/-- Settles O53, stretch by stretch: phase 1 (`advances_refresh`), phase 2 (`advances_branch`), the lamps
(`advances_lamps`), from `LEND` to `BCMP` (`advances_straight`), from `BCMP` to `PBUP` (`advances_compare`), then `PBUP` and
`SHDW`. After phase 1 `RC` is 0, so the mask of the snapshot it left is the one used (`Advances.cur`). -/
theorem cycleTakesTheStatedSteps : Obligations.CycleTakesTheStatedSteps := by
  intro s quiet start
  obtain ⟨s₂, way₂, here₂, cur₂, rc₂, bc₂⟩ := advances_refresh quiet start
  have quiet₂ := way₂.quiet quiet
  obtain ⟨_, ack, -, acknowledge, -⟩ := successorOfEveryPosition s₂ quiet₂
  obtain ⟨s₄, way₄, here₄⟩ := advances_branch quiet₂ ack (acknowledge here₂) (by omega)
  have quiet₄ := way₄.quiet quiet₂
  obtain ⟨cur₄, rc₄⟩ := way₄.cur quiet₂ rc₂
  obtain ⟨s₄₄, way₄₄, here₄₄⟩ := advances_lamps quiet₄ rc₄ here₄ 20 le_rfl
  have quiet₄₄ := way₄₄.quiet quiet₄
  obtain ⟨u, wayU, hereU⟩ := advances_straight quiet₄₄ 18 (by omega)
  have quietU := wayU.quiet quiet₄₄
  obtain ⟨v, wayV, hereV⟩ := advances_compare quietU (by omega)
  have quietV := wayV.quiet quietU
  obtain ⟨w, wayW, hereW⟩ := advances_straight quietV 1 (by omega)
  obtain ⟨t, shdw, -, -, -, -, -, wrap, -⟩ := successorOfEveryPosition w (wayW.quiet quietV)
  have toU := ((way₂.trans way₄).trans way₄₄).trans wayU
  have toW := toU.trans (wayV.trans wayW)
  rw [cur₄, cur₂, bc₂] at toU toW
  have round := (runSteps_add _ 1 s w toW.run).trans (runSteps_succ 0 w t shdw)
  refine ⟨_, _, u, t, by omega, toU.run, by omega, ?_, round, wrap (by omega),
    fun j pos lt => toW.away j pos (by omega)⟩
  unfold requestedLamps
  omega

end Sys2Proof.Machine
end

section
/-! SUPPORT. The Host Interface: the three events `HWB`, `HWC`, `HRD` (R210 to R212). -/

namespace Sys2Proof.Machine

/-- Settles O29: `execHwb` stores one byte, with the laws of `RegFile.write` (`storeThenReadOfOneByte`). -/
theorem hostByteLands : Obligations.HostByteLands := by
  intro off val s
  have laws (a : Offset) := storeThenReadOfOneByte s.rf off a val
  refine ⟨s.rf.write off val, rfl, fun inside => ?_, fun a frame => ?_⟩
  · obtain ⟨-, same, -⟩ := laws off
    exact same inside
  · obtain ⟨-, -, other⟩ := laws a
    exact other frame

/-- Settles O30: `execHwc` is the one update, and looks at no operand. -/
theorem hostCompletionSetsTheFlag : Obligations.HostCompletionSetsTheFlag :=
  fun _ _ _ => rfl

/-- Settles O31: what a read can do is `execHrd_cases`; an offset other than 255 is inside the file. -/
theorem hostReadReturnsTheByte : Obligations.HostReadReturnsTheByte := by
  intro off unused s
  obtain ⟨v, drawn, answers, inside⟩ := execHrd_cases off unused s
  exact ⟨v, drawn, answers, fun ne => inside (off.toNat_lt_iff.mpr ne)⟩

end Sys2Proof.Machine
end

section
/-! SUPPORT. The entry from outside: what a delivered event word does (R96, R210 to R212, R236), what the Loop agent makes
of what a host read leaves behind (R237), and that every step completes (R195, R230). -/

namespace Sys2Proof

/-- Every event word is made of three fields (R96). -/
theorem exists_eventWord (w : EventWord) : ∃ kind a b, w = eventWord kind a b := by
  obtain ⟨a, b, e, -⟩ | ⟨a, b, e, -⟩ | ⟨a, b, e, -⟩ | ⟨a, b, e, -⟩ := decodeEvent_cases w <;> exact ⟨_, a, b, e⟩

end Sys2Proof

namespace Sys2Proof.Machine

/-! ## One host event -/

/-- The state after the event with these fields: what a delivered word does to `RF`, to the two flags and to what a read
returns, as one function of its fields (`step_of_eventWord`). -/
def State.afterEvent (s : State) (kind : BitVec 2) (a b : Byte) : State :=
  { s with
    rf := if kind = 0 then s.rf.write a b else s.rf
    rc := s.rc || kind == 1
    bc := s.bc || (kind == 2 && isBankOffset a)
    hrdData := if kind = 2 then (s.rf.read a).getD (Config.outsideDraw s.readDraws) else s.hrdData
    readDraws := if kind = 2 ∧ s.rf.read a = none then s.readDraws + 1 else s.readDraws }

theorem execHwb_eq_afterEvent (off : Offset) (val : Byte) (s : State) :
    execHwb off val s = .next (s.afterEvent 0 off val) := by
  simp [execHwb, State.afterEvent, State.storeRf, State.setRf]

theorem execHwc_eq_afterEvent (off : Offset) (len : Byte) (s : State) :
    execHwc off len s = .next (s.afterEvent 1 off len) := by
  simp [execHwc, State.afterEvent, State.noteWriteCompleted, State.setRc]

/-- A read by whether the offset is inside the file. -/
theorem execHrd_eq_afterEvent (off : Offset) (unused : Byte) (s : State) :
    execHrd off unused s = .next (s.afterEvent 2 off unused) := by
  unfold execHrd State.afterEvent
  cases s.rf.read off with
  | some v => simp [State.noteRegisterRead, State.setBc, State.setHrdData]
  | none => simp [State.noteRegisterRead, State.setBc, State.setHrdData, State.readDrawn, State.setReadDraws]

/-- Where no byte is written, at offset 255 too, `RF` reads as before (R70). -/
theorem read_afterEvent_other (s : State) {kind : BitVec 2} {a b off : Byte} (frame : kind ≠ 0 ∨ off ≠ a ∨ off = 255) :
    (s.afterEvent kind a b).rf.read off = s.rf.read off := by
  show RegFile.read (if kind = 0 then s.rf.write a b else s.rf) off = s.rf.read off
  split
  case isTrue write =>
    have other : off ≠ a ∨ a = 255 := or_iff_not_imp_left.mpr fun same => by
      obtain rfl := not_not.mp same
      simpa [write] using frame
    obtain ⟨-, -, kept⟩ := storeThenReadOfOneByte s.rf a off b
    exact kept other
  case isFalse => rfl

/-- A delivered word does what its fields say; kind `11` is refused (R96, R102). -/
theorem step_of_eventWord {s : State} {kind : BitVec 2} {a b : Byte} (next : s.pending = .host (eventWord kind a b)) :
    step s = if kind = 3 then .refused (.undecodable .notAnEvent) else .next (s.consume.afterEvent kind a b) := by
  have kinds : ∀ k : BitVec 2, k = 0 ∨ k = 1 ∨ k = 2 ∨ k = 3 := by decide
  have read := decodeEvent_eventWord kind a b
  obtain rfl | rfl | rfl | rfl := kinds kind
  · exact (step_of_host s _ _ next read).trans (execHwb_eq_afterEvent a b s.consume)
  · exact (step_of_host s _ _ next read).trans (execHwc_eq_afterEvent a b s.consume)
  · exact (step_of_host s _ _ next read).trans (execHrd_eq_afterEvent a b s.consume)
  · exact step_of_no_event s _ _ next read

/-! ## Every step completes -/

/-- The Loop agent steps, whatever stands on the agenda behind it (R195). -/
theorem loop_step_completes {s : State} (next : s.pending = .loop) : ∃ t, step s = .next t := by
  cases agenda : s.agenda with
  | nil => exact loop_completes agenda
  | cons x rest =>
    obtain rfl : x = .loop := (pending_of_head? (by rw [agenda]; rfl)).symm.trans next
    obtain ⟨t, answers⟩ := step_choose_completes s .loop nofun
    refine ⟨t.setAgenda rest, ?_⟩
    rw [← step_setAgenda s t .loop rest answers, ← agenda]
    rfl

/-- Settles O35, agent by agent: the Loop agent by `loop_step_completes`, the Host agent by `step_of_eventWord`; the panel
and reset run no operation. -/
theorem everyStepCompletes : Obligations.EveryStepCompletes := by
  intro s
  cases next : s.pending with
  | loop => exact .inl (loop_step_completes next)
  | host word =>
    obtain ⟨kind, a, b, rfl⟩ := exists_eventWord word
    by_cases noEvent : kind = 3
    · subst noEvent
      refine .inr ⟨a, b, ?_, step_of_eventWord next⟩
      rw [agenda_of_pending next nofun]
      rfl
    · exact .inl ⟨_, (step_of_eventWord next).trans (if_neg noEvent)⟩
  | panel k closed => exact .inl ⟨_, step_of_panel s k closed next⟩
  | rst => exact .inl ⟨_, step_of_rst s next⟩

/-! ## What a host read leaves behind -/

/-- The state with another byte returned and another number of read draws: what `HRD` changes beside `BC`. -/
def State.withReads (s : State) (byte : Byte) (drawn : Nat) : State := (s.setHrdData byte).setReadDraws drawn

/-- A change made to both sides of a branch is made to the side taken. -/
theorem ite_next_map {c : Prop} [Decidable c] {a b t : State} (f : State → State)
    (run : (if c then .next a else .next b : Host.Outcome State Fault Refusal) = .next t) :
    (if c then .next (f a) else .next (f b) : Host.Outcome State Fault Refusal) = .next (f t) := by
  rw [← apply_ite Host.Outcome.next] at run ⊢
  rw [← apply_ite f, Host.Outcome.next.inj run]

/-- Reading the sense lines does not involve the reads. -/
theorem afterSense_withReads (s : State) (byte : Byte) (drawn : Nat) :
    (s.withReads byte drawn).afterSense = s.afterSense.withReads byte drawn := by
  unfold State.afterSense
  rw [show (s.withReads byte drawn).fixedLevels = s.fixedLevels from rfl]
  cases s.fixedLevels <;> rfl

/-- No operation but `HRD` looks at the byte returned or at the number of read draws (R237). -/
theorem exec_withReads {i : Instr} {s t : State} (byte : Byte) (drawn : Nat) (other : ∀ off unused, i ≠ .hrd off unused)
    (run : exec i s = .next t) : exec i (s.withReads byte drawn) = .next (t.withReads byte drawn) := by
  cases i using Instr.byFamily with
  | hrd off unused => exact absurd rfl (other off unused)
  | rfsh => exact ite_next_map (·.withReads byte drawn) run
  | ack => exact ite_next_map (·.withReads byte drawn) run
  | lampOn i =>
    rw [exec_lon] at run ⊢
    exact ite_next_map (·.withReads byte drawn) run
  | sample k =>
    rw [exec_samp, sampleBank] at run ⊢
    rw [afterSense_withReads]
    cases run; rfl
  | bcmp => exact ite_next_map (·.withReads byte drawn) run
  | lampOff i => rw [exec_loff] at run ⊢; cases run; rfl
  | select k => rw [exec_sela] at run ⊢; cases run; rfl
  | deselect k => rw [exec_seli] at run ⊢; cases run; rfl
  | writeBank k => rw [exec_bwr] at run ⊢; cases run; rfl
  | hwb | hwc | rfcl | ackcl | lend | ver0 | ver1 | irqa | pbup | shdw => cases run; rfl

/-- Nor does a step of the Loop agent: its operation is coded in one byte, `HRD` in three (R90). -/
theorem loop_step_withReads {s t : State} (next : s.pending = .loop) (answers : step s = .next t) (byte : Byte)
    (drawn : Nat) : step (s.withReads byte drawn) = .next (t.withReads byte drawn) := by
  rcases step_next_cases answers with ⟨i, d, run⟩ | ⟨k, closed, panel, -⟩ | ⟨rst, -⟩
  · have other : ∀ off unused, i ≠ .hrd off unused := by
      rintro off unused rfl
      have code := encodeOfDecodeIsTheBytes _ _ d
      rw [fetch_of_loop next] at code
      exact absurd (show 3 = 1 from congrArg List.length code) nofun
    exact (step_of_decode (s := s.withReads byte drawn) d).trans (exec_withReads byte drawn other run)
  · cases next.symm.trans panel
  · cases next.symm.trans rst

/-- Settles O43: the step is `State.afterEvent` of the word's fields, which has the frame and reads no snapshot and no
button state; what it leaves of `RF` is `read_afterEvent_other`, the Loop agent's next step `loop_step_withReads`. -/
theorem hostEventsTouchOnlyTheirOwn : Obligations.HostEventsTouchOnlyTheirOwn := by
  intro s t word head answers
  obtain ⟨kind, a, b, rfl⟩ := exists_eventWord word
  have next := pending_of_head? head
  simp only [kind_eventWord, a_eventWord, b_eventWord]
  have event : kind ≠ 3 := by
    rintro rfl
    cases (step_of_eventWord next).symm.trans answers
  have delivers {u : State} (next : u.pending = .host (eventWord kind a b)) :
      step u = .next (u.consume.afterEvent kind a b) := (step_of_eventWord next).trans (if_neg event)
  obtain rfl := Host.Outcome.next.inj (answers.symm.trans (delivers next))
  refine ⟨rfl, ?_, fun off frame => read_afterEvent_other s.consume frame, rfl, rfl,
    fun other => ⟨if_neg other, if_neg fun h => other h.1⟩, fun cur prev btn pbtn => delivers next,
    fun v byte drawn loops => loop_step_withReads rfl loops byte drawn⟩
  rintro off rfl rfl inside
  exact RegFile.read_write_same s.rf off b (off.toNat_lt_iff.mpr inside)

end Sys2Proof.Machine
end

section
/-! SUPPORT. The hazards of two agents at work on one state, each as a run: a notification that is lost (R271), a
transaction that is torn (R270), an acknowledgement that is stale (R273). -/

namespace Sys2Proof.Machine

/-! ## A write beside the refresh -/

/-- Settles O58: the byte lands (`step_of_hwb`), its completion sets `RC` (`step_of_hwc`), and `RFCL` clears the flag that
no `RFSH` has seen. -/
theorem lostNotificationIsARun : Obligations.LostNotificationIsARun := by
  intro s off v inside here next
  let landed : State := { s with rf := s.rf.write off v, agenda := [.host (eventWord 1 off 1), .loop] }
  let completed : State := { landed with rc := true, agenda := [.loop] }
  have clear : step completed = .next (completed.consume.clearChanged.setSeq 2) :=
    step_of_loop completed .rfcl rfl (by rw [show completed.seq.val = 1 from here]; rfl)
  refine ⟨completed.consume.clearChanged.setSeq 2, ?_, RegFile.read_write_same s.rf off v (off.toNat_lt_iff.mpr inside),
    rfl, rfl, rfl⟩
  calc runSteps 3 s = runSteps 2 landed := runSteps_succ 2 s landed (step_of_hwb next)
    _ = runSteps 1 completed := runSteps_succ 1 landed completed (step_of_hwc rfl)
    _ = _ := runSteps_succ 0 completed _ clear

/-- Settles O59: the byte lands (`step_of_hwb`), and `RFSH` copies the file as it then stands. -/
theorem tornMaskIsARun : Obligations.TornMaskIsARun := by
  intro s v changed here next
  let landed : State := { s with rf := s.rf.write 4 v, agenda := [.loop] }
  have rfsh : step landed = execRfsh landed.consume :=
    step_of_loop landed .rfsh rfl (by rw [show landed.seq.val = 0 from here]; rfl)
  have copy : step landed = .next ((landed.consume.setCur landed.rf).setSeq 1) := rfsh.trans (if_pos changed)
  refine ⟨(landed.consume.setCur landed.rf).setSeq 1, ?_, RegFile.read_write_same s.rf 4 v (by decide),
    fun a other => RegFile.read_write_other s.rf 4 a v other⟩
  calc runSteps 2 s = runSteps 1 landed := runSteps_succ 1 s landed (step_of_hwb next)
    _ = _ := runSteps_succ 0 landed _ copy

/-! ## A bank read before the assertion -/

/-- `n` steps lead from `s` to `t`, and after each of them the line is `Asserted`. -/
structure Raised (n : Nat) (s t : State) : Prop where
  run : runSteps n s = .next t
  raised : ∀ j : Nat, 1 ≤ j → j ≤ n → ∃ u : State, runSteps j s = .next u ∧ u.irq = .asserted

theorem Raised.nil (s : State) : Raised 0 s s := ⟨rfl, fun _ pos le => absurd le (by omega)⟩

/-- One step more at the front, which asserts the line or leaves it so. -/
theorem Raised.cons {n : Nat} {s t u : State} (first : step s = .next t) (asserted : t.irq = .asserted)
    (rest : Raised n t u) : Raised (n + 1) s u := by
  have onward (j : Nat) : runSteps (j + 1) s = runSteps j t := runSteps_succ j s t first
  refine ⟨(onward n).trans rest.run, fun j pos le => ?_⟩
  obtain ⟨i, rfl⟩ := Nat.exists_eq_add_of_le' pos
  rw [onward]
  cases i with
  | zero => exact ⟨t, rfl, asserted⟩
  | succ i => exact rest.raised (i + 1) (by omega) (by omega)

/-- Phase 1 leaves the line `Asserted`, `BC` and `RF` as they were; where `RC` was set it takes one step more. -/
theorem raised_refresh {s : State} (quiet : s.agenda = []) (here : s.seq.val = 0) (asserted : s.irq = .asserted) :
    ∃ t, Raised (1 + s.rc.toNat) s t ∧ t.agenda = [] ∧ t.seq.val = 2 ∧ t.bc = s.bc ∧ t.rf = s.rf := by
  have rfsh : step s = execRfsh s := step_of_encode (i := .rfsh) quiet (by rw [here]; rfl)
  cases changed : s.rc with
  | true =>
    have copy : step s = .next ((s.setCur s.rf).setSeq 1) := rfsh.trans (if_pos changed)
    have clear : step ((s.setCur s.rf).setSeq 1) = .next (((s.setCur s.rf).setSeq 1).clearChanged.setSeq 2) :=
      step_of_encode (i := .rfcl) quiet rfl
    exact ⟨_, .cons copy asserted (.cons clear asserted (.nil _)), quiet, rfl, rfl, rfl⟩
  | false =>
    have pass : step s = .next (s.setSeq 2) := rfsh.trans (if_neg (Bool.eq_false_iff.mp changed))
    exact ⟨_, .cons pass asserted (.nil _), quiet, rfl, rfl, rfl⟩

/-- `IRQA`, `PBUP`, `SHDW` and phase 1: the line is raised and stays so up to `ACK`; `BC` and `RF` stay as they were. -/
theorem raised_untilAcknowledge {s : State} (quiet : s.agenda = []) (here : s.seq.val = 68) :
    ∃ t, Raised (4 + s.rc.toNat) s t ∧ t.agenda = [] ∧ t.seq.val = 2 ∧ t.bc = s.bc ∧ t.rf = s.rf := by
  let announced := s.assertIrq.setSeq 69
  let remembered := (announced.setPbtn announced.btn).setSeq 70
  let wrapped := (remembered.setPrev remembered.cur).setSeq 0
  have irqa : step s = .next announced := step_of_encode (i := .irqa) quiet (by rw [here]; rfl)
  have pbup : step announced = .next remembered := step_of_encode (i := .pbup) quiet rfl
  have shdw : step remembered = .next wrapped := step_of_encode (i := .shdw) quiet rfl
  obtain ⟨t, way, rest⟩ := raised_refresh (s := wrapped) quiet rfl rfl
  have whole : Raised (1 + s.rc.toNat + 1 + 1 + 1) s t := .cons irqa rfl (.cons pbup rfl (.cons shdw rfl way))
  rw [show 4 + s.rc.toNat = 1 + s.rc.toNat + 1 + 1 + 1 by omega]
  exact ⟨t, whole, rest⟩

/-- Settles O60: the line is raised up to `ACK` (`raised_untilAcknowledge`), which finds the old `BC` and releases it. -/
theorem staleAcknowledgementIsARun : Obligations.StaleAcknowledgementIsARun := by
  intro s quiet here read
  obtain ⟨u, way, quietU, hereU, bc, rf⟩ := raised_untilAcknowledge quiet here
  have ack : step u = execAck u := step_of_encode (i := .ack) quietU (by rw [hereU]; rfl)
  have release : step u = .next (u.releaseIrq.setSeq 3) := ack.trans (if_pos (bc.trans read))
  refine ⟨way.raised, u.releaseIrq.setSeq 3, ?_, rfl, rfl, rf⟩
  calc runSteps (5 + s.rc.toNat) s = runSteps (4 + s.rc.toNat + 1) s := by rw [Nat.add_right_comm]
    _ = runSteps 1 u := runSteps_add _ 1 s u way.run
    _ = .next (u.releaseIrq.setSeq 3) := runSteps_succ 0 u _ release

end Sys2Proof.Machine
end
